-- ==== Sys2Proof/Word.lean ====
section
/-! DEFINITION. The two widths of the machine: the byte of registers and memory (R4, P0, P0b) and
the 16-bit word of the program counter and of addresses (P0a). -/

namespace Sys2Proof

/-- 8 bits: A, X, Y, S, the pushed status, a byte of memory, an operand byte. -/
abbrev Byte := BitVec 8

/-- 16 bits: PC, an address, a two-byte operand. -/
abbrev Word := BitVec 16

end Sys2Proof
end

