-- ==== Sys2Proof/Config.lean ====
section
/-! DEFINITION. The implementation parameters of rule R3 (plain data, carried by the state and changed
by no step) and the free values that rule R5 calls `draw(n)`. -/

namespace Sys2Proof

/-- P2 `DecimalModel`: what decimal ADC and SBC give where the source is silent (R152, R153, R158,
R159, R161). -/
inductive DecimalModel where
  /-- The values the source does not give are free (the default). -/
  | draw
  /-- The formulas of rule R161. -/
  | nmos
  deriving DecidableEq, Repr

/-- The kinds of address of P4 `MemMap` (R43). -/
inductive MemKind where
  | ram
  | rom
  | device
  | unmapped
  deriving DecidableEq, Repr

/-- One stretch of the address map: the addresses `base` to `base + size - 1`. -/
structure Region where
  base : Nat
  size : Nat
  kind : MemKind
  deriving DecidableEq, Repr

/-- The three outcomes of rule R226 when an IRQ is due and the byte at pc is `$00`. -/
inductive Collision where
  | irqFirst
  | brkIgnored
  | brkFirst
  deriving DecidableEq, Repr, Inhabited

/-- The parameters of rule R3 that a step reads. The default of each field is the value rule R3 gives
this hardware (or, for an OPEN one, its default). -/
structure Config where
  /-- P1 `HasROR` (R1, R93). -/
  hasROR : Bool := true
  /-- P2 `DecimalModel`. -/
  decimalModel : DecimalModel := .draw
  /-- P3 `JmpIndirectPageBug` (R86). -/
  jmpIndirectPageBug : Bool := true
  /-- P4 `MemMap` (R43): the first region that holds an address gives its kind; an address in no
  region is RAM, so the empty list is the default map. -/
  memMap : List Region := []
  /-- P5 `SoPinUsed` (R33). -/
  soPinUsed : Bool := false
  /-- P6 `BrkIrqCollision` (R226): `none` draws one of the three outcomes, `some c` allows `c` alone
  (U3: the parameter may restrict the set). -/
  brkIrqCollision : Option Collision := none
  /-- P11 `IFlagDelay` (R222). -/
  iFlagDelay : Bool := true
  deriving DecidableEq, Repr

/-- The parameters at the values of rule R3. -/
def Config.standard : Config := {}

/-- `draw(8)` (R5): a byte no rule determines. The argument is the number of the draw
(`State.draws`). Log entry 2. -/
opaque Config.drawByte : Nat → Byte

/-- `draw(1)` (R5): a bit no rule determines. Log entry 2. -/
opaque Config.drawBit : Nat → Bool

/-- The draw of rule R226 over its three outcomes. Log entry 2. -/
opaque Config.drawCollision : Nat → Collision

end Sys2Proof
end

