-- ==== Sys2Proof/Machine/Bits.lean ====
section
/-! DEFINITION. The bit-field, byte-order and extension helpers of rules R4 and R5. -/

namespace Sys2Proof

/-- R4: `hi:lo`, the 16-bit concatenation of two bytes. -/
def mkWord (hi lo : Byte) : Word := hi ++ lo

/-- R4: the high byte `v[15:8]` (the source's PCH for PC). -/
def hiByte (v : Word) : Byte := v.extractLsb' 8 8

/-- R4: the low byte `v[7:0]` (PCL). -/
def loByte (v : Word) : Byte := v.extractLsb' 0 8

/-- R5: `zext_16(b)`. -/
def zext16 (b : Byte) : Word := b.setWidth 16

/-- R5: `sext_16(b)`, the 16-bit two's complement of `signed(b)`. -/
def sext16 (b : Byte) : Word := b.signExtend 16

/-- A flag as the number R4's formulas add: 1 or 0. -/
def bitNat (c : Bool) : Nat := c.toNat

/-- Byte number `k` (least significant first) of the number `w`: how the opcode table numbers the
bits of an instruction's bytes. -/
def byteOf (w k : Nat) : Byte := BitVec.ofNat 8 (w / 2 ^ (8 * k))

end Sys2Proof
end

