-- ==== Sys2Proof/Machine/Memory.lean ====
section
/-! DEFINITION. The one 64 KiB byte memory (R29, R40) as a list of (address, byte) cells in one
canonical form: addresses strictly rising, all below 65536, and no cell that holds what an unlisted
address reads as. -/

namespace Sys2Proof.Machine

/-- The contents of memory. -/
abbrev Memory := List Host.Cell

/-- What an address no cell lists reads as. R252 leaves power-on contents unspecified and the platform's.
DESIGN CHOICE, unsafe (log entry 3). -/
def Memory.unlisted : Byte := 0

/-- The number of addresses (R40). -/
def Memory.size : Nat := 65536

/-- The byte at address `k`; the list is read in rising order. -/
def Memory.read : Memory → Nat → Byte
  | [], _ => Memory.unlisted
  | c :: rest, k =>
    if k < c.1 then Memory.unlisted else if c.1 = k then c.2 else Memory.read rest k

/-- Put a cell in front, unless it would hold what an unlisted address reads as. -/
def Memory.cons (k : Nat) (b : Byte) (rest : Memory) : Memory :=
  if b = Memory.unlisted then rest else (k, b) :: rest

/-- The memory with byte `b` at address `k`, in canonical form. -/
def Memory.write : Memory → Nat → Byte → Memory
  | [], k, b => Memory.cons k b []
  | c :: rest, k, b =>
    if k < c.1 then Memory.cons k b (c :: rest)
    else if c.1 = k then Memory.cons k b rest
    else c :: Memory.write rest k b

/-- The canonical form from address `lo` upward. -/
def Memory.wfFrom : Nat → Memory → Bool
  | _, [] => true
  | lo, c :: rest =>
    decide (lo ≤ c.1) && decide (c.1 < Memory.size) && decide (c.2 ≠ Memory.unlisted)
      && Memory.wfFrom (c.1 + 1) rest

/-- The canonical form holds. -/
def Memory.wf (m : Memory) : Bool := Memory.wfFrom 0 m

/-- R45: the little-endian word at address `a`, its high byte at the next address modulo 65536. -/
def Memory.wordAt (m : Memory) (a : Word) : Word :=
  mkWord (Memory.read m (a + 1).toNat) (Memory.read m a.toNat)

end Sys2Proof.Machine
end

