-- ==== Sys2Proof/Syntax.lean ====
section
/-! DEFINITION. The instructions: the 56 mnemonics, the 13 addressing modes (R76 to R88) and one
constructor of `Instr` per row of the opcode table (R96). A constructor holds the operand bytes the
row has: nothing (F1), the byte `b1` (F2), or the word `b2:b1` (F3), as R73 reads them. -/

namespace Sys2Proof

/-- The 56 mnemonics of the family table (R1), family by family. -/
inductive Mnemonic where
  | lda | ldx | ldy | sta | stx | sty
  | tax | tay | tsx | txa | txs | tya
  | pha | php | pla | plp
  | asl | lsr | rol | ror
  | and | bit | eor | ora
  | adc | cmp | cpx | cpy | sbc
  | dec | dex | dey | inc | inx | iny
  | brk | jmp | jsr | rti | rts
  | bcc | bcs | beq | bmi | bne | bpl | bvc | bvs
  | clc | cld | cli | clv | sec | sed | sei
  | nop
  deriving DecidableEq, Repr

/-- The thirteen addressing modes (R76 to R88), by the short names of the spec. -/
inductive Mode where
  | imp | acc | imm | zp | zpX | zpY | abs | absX | absY | ind | indX | indY | rel
  deriving DecidableEq, Repr

/-- The three instruction formats of R70: one, two or three bytes. -/
inductive Format where
  | f1 | f2 | f3
  deriving DecidableEq, Repr

/-- R72: the format is a function of the addressing mode alone. -/
def Mode.format : Mode → Format
  | .imp | .acc => .f1
  | .imm | .zp | .zpX | .zpY | .indX | .indY | .rel => .f2
  | .abs | .absX | .absY | .ind => .f3

/-- R70: the number of bytes of a format. -/
def Format.length : Format → Nat
  | .f1 => 1
  | .f2 => 2
  | .f3 => 3

/-- R72: the length of an instruction, from its mode. -/
def Mode.length (m : Mode) : Nat := m.format.length

/-- The 151 instructions of R96. `m` is an immediate byte, `z` a zero-page address, `a` a 16-bit
address, `off` a branch offset (the byte as encoded; R85 reads it as signed). -/
inductive Instr where
  | ldaImm (m : Byte)
  | ldaZp (z : Byte)
  | ldaZpX (z : Byte)
  | ldaAbs (a : Word)
  | ldaAbsX (a : Word)
  | ldaAbsY (a : Word)
  | ldaIndX (z : Byte)
  | ldaIndY (z : Byte)
  | ldxImm (m : Byte)
  | ldxZp (z : Byte)
  | ldxZpY (z : Byte)
  | ldxAbs (a : Word)
  | ldxAbsY (a : Word)
  | ldyImm (m : Byte)
  | ldyZp (z : Byte)
  | ldyZpX (z : Byte)
  | ldyAbs (a : Word)
  | ldyAbsX (a : Word)
  | staZp (z : Byte)
  | staZpX (z : Byte)
  | staAbs (a : Word)
  | staAbsX (a : Word)
  | staAbsY (a : Word)
  | staIndX (z : Byte)
  | staIndY (z : Byte)
  | stxZp (z : Byte)
  | stxZpY (z : Byte)
  | stxAbs (a : Word)
  | styZp (z : Byte)
  | styZpX (z : Byte)
  | styAbs (a : Word)
  | tax
  | tay
  | tsx
  | txa
  | txs
  | tya
  | pha
  | php
  | pla
  | plp
  | aslAcc
  | aslZp (z : Byte)
  | aslZpX (z : Byte)
  | aslAbs (a : Word)
  | aslAbsX (a : Word)
  | lsrAcc
  | lsrZp (z : Byte)
  | lsrZpX (z : Byte)
  | lsrAbs (a : Word)
  | lsrAbsX (a : Word)
  | rolAcc
  | rolZp (z : Byte)
  | rolZpX (z : Byte)
  | rolAbs (a : Word)
  | rolAbsX (a : Word)
  | rorAcc
  | rorZp (z : Byte)
  | rorZpX (z : Byte)
  | rorAbs (a : Word)
  | rorAbsX (a : Word)
  | andImm (m : Byte)
  | andZp (z : Byte)
  | andZpX (z : Byte)
  | andAbs (a : Word)
  | andAbsX (a : Word)
  | andAbsY (a : Word)
  | andIndX (z : Byte)
  | andIndY (z : Byte)
  | bitZp (z : Byte)
  | bitAbs (a : Word)
  | eorImm (m : Byte)
  | eorZp (z : Byte)
  | eorZpX (z : Byte)
  | eorAbs (a : Word)
  | eorAbsX (a : Word)
  | eorAbsY (a : Word)
  | eorIndX (z : Byte)
  | eorIndY (z : Byte)
  | oraImm (m : Byte)
  | oraZp (z : Byte)
  | oraZpX (z : Byte)
  | oraAbs (a : Word)
  | oraAbsX (a : Word)
  | oraAbsY (a : Word)
  | oraIndX (z : Byte)
  | oraIndY (z : Byte)
  | adcImm (m : Byte)
  | adcZp (z : Byte)
  | adcZpX (z : Byte)
  | adcAbs (a : Word)
  | adcAbsX (a : Word)
  | adcAbsY (a : Word)
  | adcIndX (z : Byte)
  | adcIndY (z : Byte)
  | cmpImm (m : Byte)
  | cmpZp (z : Byte)
  | cmpZpX (z : Byte)
  | cmpAbs (a : Word)
  | cmpAbsX (a : Word)
  | cmpAbsY (a : Word)
  | cmpIndX (z : Byte)
  | cmpIndY (z : Byte)
  | cpxImm (m : Byte)
  | cpxZp (z : Byte)
  | cpxAbs (a : Word)
  | cpyImm (m : Byte)
  | cpyZp (z : Byte)
  | cpyAbs (a : Word)
  | sbcImm (m : Byte)
  | sbcZp (z : Byte)
  | sbcZpX (z : Byte)
  | sbcAbs (a : Word)
  | sbcAbsX (a : Word)
  | sbcAbsY (a : Word)
  | sbcIndX (z : Byte)
  | sbcIndY (z : Byte)
  | decZp (z : Byte)
  | decZpX (z : Byte)
  | decAbs (a : Word)
  | decAbsX (a : Word)
  | dex
  | dey
  | incZp (z : Byte)
  | incZpX (z : Byte)
  | incAbs (a : Word)
  | incAbsX (a : Word)
  | inx
  | iny
  | brk
  | jmpAbs (a : Word)
  | jmpInd (a : Word)
  | jsr (a : Word)
  | rti
  | rts
  | bcc (off : Byte)
  | bcs (off : Byte)
  | beq (off : Byte)
  | bmi (off : Byte)
  | bne (off : Byte)
  | bpl (off : Byte)
  | bvc (off : Byte)
  | bvs (off : Byte)
  | clc
  | cld
  | cli
  | clv
  | sec
  | sed
  | sei
  | nop
  deriving DecidableEq, Repr

/-- The mnemonic of an instruction (R96, second column). -/
def Instr.mnemonic : Instr → Mnemonic
  | .ldaImm _ | .ldaZp _ | .ldaZpX _ | .ldaAbs _
  | .ldaAbsX _ | .ldaAbsY _ | .ldaIndX _ | .ldaIndY _ => .lda
  | .ldxImm _ | .ldxZp _ | .ldxZpY _ | .ldxAbs _ | .ldxAbsY _ => .ldx
  | .ldyImm _ | .ldyZp _ | .ldyZpX _ | .ldyAbs _ | .ldyAbsX _ => .ldy
  | .staZp _ | .staZpX _ | .staAbs _ | .staAbsX _ | .staAbsY _ | .staIndX _ | .staIndY _ => .sta
  | .stxZp _ | .stxZpY _ | .stxAbs _ => .stx
  | .styZp _ | .styZpX _ | .styAbs _ => .sty
  | .tax => .tax
  | .tay => .tay
  | .tsx => .tsx
  | .txa => .txa
  | .txs => .txs
  | .tya => .tya
  | .pha => .pha
  | .php => .php
  | .pla => .pla
  | .plp => .plp
  | .aslAcc | .aslZp _ | .aslZpX _ | .aslAbs _ | .aslAbsX _ => .asl
  | .lsrAcc | .lsrZp _ | .lsrZpX _ | .lsrAbs _ | .lsrAbsX _ => .lsr
  | .rolAcc | .rolZp _ | .rolZpX _ | .rolAbs _ | .rolAbsX _ => .rol
  | .rorAcc | .rorZp _ | .rorZpX _ | .rorAbs _ | .rorAbsX _ => .ror
  | .andImm _ | .andZp _ | .andZpX _ | .andAbs _
  | .andAbsX _ | .andAbsY _ | .andIndX _ | .andIndY _ => .and
  | .bitZp _ | .bitAbs _ => .bit
  | .eorImm _ | .eorZp _ | .eorZpX _ | .eorAbs _
  | .eorAbsX _ | .eorAbsY _ | .eorIndX _ | .eorIndY _ => .eor
  | .oraImm _ | .oraZp _ | .oraZpX _ | .oraAbs _
  | .oraAbsX _ | .oraAbsY _ | .oraIndX _ | .oraIndY _ => .ora
  | .adcImm _ | .adcZp _ | .adcZpX _ | .adcAbs _
  | .adcAbsX _ | .adcAbsY _ | .adcIndX _ | .adcIndY _ => .adc
  | .cmpImm _ | .cmpZp _ | .cmpZpX _ | .cmpAbs _
  | .cmpAbsX _ | .cmpAbsY _ | .cmpIndX _ | .cmpIndY _ => .cmp
  | .cpxImm _ | .cpxZp _ | .cpxAbs _ => .cpx
  | .cpyImm _ | .cpyZp _ | .cpyAbs _ => .cpy
  | .sbcImm _ | .sbcZp _ | .sbcZpX _ | .sbcAbs _
  | .sbcAbsX _ | .sbcAbsY _ | .sbcIndX _ | .sbcIndY _ => .sbc
  | .decZp _ | .decZpX _ | .decAbs _ | .decAbsX _ => .dec
  | .dex => .dex
  | .dey => .dey
  | .incZp _ | .incZpX _ | .incAbs _ | .incAbsX _ => .inc
  | .inx => .inx
  | .iny => .iny
  | .brk => .brk
  | .jmpAbs _ | .jmpInd _ => .jmp
  | .jsr _ => .jsr
  | .rti => .rti
  | .rts => .rts
  | .bcc _ => .bcc
  | .bcs _ => .bcs
  | .beq _ => .beq
  | .bmi _ => .bmi
  | .bne _ => .bne
  | .bpl _ => .bpl
  | .bvc _ => .bvc
  | .bvs _ => .bvs
  | .clc => .clc
  | .cld => .cld
  | .cli => .cli
  | .clv => .clv
  | .sec => .sec
  | .sed => .sed
  | .sei => .sei
  | .nop => .nop

/-- The addressing mode of an instruction (R96, third column). -/
def Instr.mode : Instr → Mode
  | .ldaImm _ => .imm
  | .ldaZp _ => .zp
  | .ldaZpX _ => .zpX
  | .ldaAbs _ => .abs
  | .ldaAbsX _ => .absX
  | .ldaAbsY _ => .absY
  | .ldaIndX _ => .indX
  | .ldaIndY _ => .indY
  | .ldxImm _ => .imm
  | .ldxZp _ => .zp
  | .ldxZpY _ => .zpY
  | .ldxAbs _ => .abs
  | .ldxAbsY _ => .absY
  | .ldyImm _ => .imm
  | .ldyZp _ => .zp
  | .ldyZpX _ => .zpX
  | .ldyAbs _ => .abs
  | .ldyAbsX _ => .absX
  | .staZp _ => .zp
  | .staZpX _ => .zpX
  | .staAbs _ => .abs
  | .staAbsX _ => .absX
  | .staAbsY _ => .absY
  | .staIndX _ => .indX
  | .staIndY _ => .indY
  | .stxZp _ => .zp
  | .stxZpY _ => .zpY
  | .stxAbs _ => .abs
  | .styZp _ => .zp
  | .styZpX _ => .zpX
  | .styAbs _ => .abs
  | .tax => .imp
  | .tay => .imp
  | .tsx => .imp
  | .txa => .imp
  | .txs => .imp
  | .tya => .imp
  | .pha => .imp
  | .php => .imp
  | .pla => .imp
  | .plp => .imp
  | .aslAcc => .acc
  | .aslZp _ => .zp
  | .aslZpX _ => .zpX
  | .aslAbs _ => .abs
  | .aslAbsX _ => .absX
  | .lsrAcc => .acc
  | .lsrZp _ => .zp
  | .lsrZpX _ => .zpX
  | .lsrAbs _ => .abs
  | .lsrAbsX _ => .absX
  | .rolAcc => .acc
  | .rolZp _ => .zp
  | .rolZpX _ => .zpX
  | .rolAbs _ => .abs
  | .rolAbsX _ => .absX
  | .rorAcc => .acc
  | .rorZp _ => .zp
  | .rorZpX _ => .zpX
  | .rorAbs _ => .abs
  | .rorAbsX _ => .absX
  | .andImm _ => .imm
  | .andZp _ => .zp
  | .andZpX _ => .zpX
  | .andAbs _ => .abs
  | .andAbsX _ => .absX
  | .andAbsY _ => .absY
  | .andIndX _ => .indX
  | .andIndY _ => .indY
  | .bitZp _ => .zp
  | .bitAbs _ => .abs
  | .eorImm _ => .imm
  | .eorZp _ => .zp
  | .eorZpX _ => .zpX
  | .eorAbs _ => .abs
  | .eorAbsX _ => .absX
  | .eorAbsY _ => .absY
  | .eorIndX _ => .indX
  | .eorIndY _ => .indY
  | .oraImm _ => .imm
  | .oraZp _ => .zp
  | .oraZpX _ => .zpX
  | .oraAbs _ => .abs
  | .oraAbsX _ => .absX
  | .oraAbsY _ => .absY
  | .oraIndX _ => .indX
  | .oraIndY _ => .indY
  | .adcImm _ => .imm
  | .adcZp _ => .zp
  | .adcZpX _ => .zpX
  | .adcAbs _ => .abs
  | .adcAbsX _ => .absX
  | .adcAbsY _ => .absY
  | .adcIndX _ => .indX
  | .adcIndY _ => .indY
  | .cmpImm _ => .imm
  | .cmpZp _ => .zp
  | .cmpZpX _ => .zpX
  | .cmpAbs _ => .abs
  | .cmpAbsX _ => .absX
  | .cmpAbsY _ => .absY
  | .cmpIndX _ => .indX
  | .cmpIndY _ => .indY
  | .cpxImm _ => .imm
  | .cpxZp _ => .zp
  | .cpxAbs _ => .abs
  | .cpyImm _ => .imm
  | .cpyZp _ => .zp
  | .cpyAbs _ => .abs
  | .sbcImm _ => .imm
  | .sbcZp _ => .zp
  | .sbcZpX _ => .zpX
  | .sbcAbs _ => .abs
  | .sbcAbsX _ => .absX
  | .sbcAbsY _ => .absY
  | .sbcIndX _ => .indX
  | .sbcIndY _ => .indY
  | .decZp _ => .zp
  | .decZpX _ => .zpX
  | .decAbs _ => .abs
  | .decAbsX _ => .absX
  | .dex => .imp
  | .dey => .imp
  | .incZp _ => .zp
  | .incZpX _ => .zpX
  | .incAbs _ => .abs
  | .incAbsX _ => .absX
  | .inx => .imp
  | .iny => .imp
  | .brk => .imp
  | .jmpAbs _ => .abs
  | .jmpInd _ => .ind
  | .jsr _ => .abs
  | .rti => .imp
  | .rts => .imp
  | .bcc _ => .rel
  | .bcs _ => .rel
  | .beq _ => .rel
  | .bmi _ => .rel
  | .bne _ => .rel
  | .bpl _ => .rel
  | .bvc _ => .rel
  | .bvs _ => .rel
  | .clc => .imp
  | .cld => .imp
  | .cli => .imp
  | .clv => .imp
  | .sec => .imp
  | .sed => .imp
  | .sei => .imp
  | .nop => .imp

/-- R72: the length in bytes. BRK has length 1 although its return address is pc + 2 (C4). -/
def Instr.length (i : Instr) : Nat := i.mode.length

end Sys2Proof
end

