-- ==== Sys2Proof/Machine/State.lean ====
section
/-! DEFINITION. The machine's state (R10 to R36), the reasons a step can stop, and the state right
after reset. -/

namespace Sys2Proof.Machine

/-- The environment's inputs at one instruction boundary (R35, P9): the level of `IrqLine`, and
whether `NmiEdge`, `ResetLine` and the set-overflow input (R33) are signalled there. -/
structure BoundaryInput where
  resetLine : Bool := false
  nmiEdge : Bool := false
  irqLine : Bool := false
  setOverflow : Bool := false
  deriving DecidableEq, Repr

/-- The state of the machine. The first fourteen fields are the spec's; `cfg`, `inputs` and `draws`
are the model's own, so that one step is a function of the state alone (log entries 1, 2 and 4). -/
structure State where
  /-- A, the accumulator (R10). -/
  A : Byte
  /-- X, index register X (R11). -/
  X : Byte
  /-- Y, index register Y (R12). -/
  Y : Byte
  /-- S, the stack pointer (R26). -/
  S : Byte
  /-- PC, the program counter (R13). -/
  pc : Word
  /-- N, the negative flag (R24). -/
  N : Bool
  /-- V, the overflow flag (R23). -/
  V : Bool
  /-- D, the decimal mode flag (R22). -/
  D : Bool
  /-- I, the interrupt disable flag (R21). -/
  I : Bool
  /-- Z, the zero flag (R20). -/
  Z : Bool
  /-- C, the carry flag (R19). -/
  C : Bool
  /-- Mem (R29). -/
  mem : Memory
  /-- `nmi_pending` (R31). -/
  nmiPending : Bool
  /-- `i_prev` (R32, R222): `none`, or the value I had before the CLI, SEI or PLP just executed. -/
  iPrev : Option Bool
  /-- The parameters of R3; no step changes them. -/
  cfg : Config
  /-- The environment's inputs at the boundaries to come, the next first; past the end of the list
  every input is quiet. -/
  inputs : List BoundaryInput
  /-- How many free values have been drawn. -/
  draws : Nat
  deriving DecidableEq, Repr

/-- Faults: none. The chip has no fault of its own (R211), and the two model faults of R235 are refusals
of the model: see `Refusal`. No step ends in a fault. -/
inductive Fault : Type
  deriving DecidableEq, Repr

/-- Refusals: the spec gives no meaning and asks the model to refuse (R235). -/
inductive Refusal where
  /-- The arm of `exec` has no meaning yet. Safe. -/
  | notModelled (mnemonic : String)
  /-- R92 `UndefinedOpcode(opc, pc)`: the byte fetched as an opcode is not one the part has. Raised by
  the fetch. Safe: the spec says that the model refuses. -/
  | undefinedOpcode (opc : Byte) (pc : Word)
  /-- R43, R50, R211 `Unmapped(addr)`: an access went to an address the platform's `MemMap` marks
  `Unmapped` or `Device`. Raised by every memory read and write, fetches, stack and vector accesses
  among them. Safe: the run ends and nothing can be proved past it. -/
  | unmapped (addr : Word)
  deriving DecidableEq, Repr

/-- The machine right after a power-on RESET (R34, R250, R253) on the standard platform: I is 1,
`nmi_pending` 0, `i_prev` none, pc from `$FFFC/$FFFD` of a memory with nothing listed. The spec leaves
A, X, Y, N, V, D, Z and C to a draw; the model names 0 for them, and for S the `$FD` that the chip's
three decrements leave of 0. DESIGN CHOICE, unsafe (log entry 5). -/
def State.reset : State where
  A := 0
  X := 0
  Y := 0
  S := 0xFD
  pc := Memory.wordAt [] 0xFFFC
  N := false
  V := false
  D := false
  I := true
  Z := false
  C := false
  mem := []
  nmiPending := false
  iPrev := none
  cfg := Config.standard
  inputs := []
  draws := 0

end Sys2Proof.Machine
end

