-- ==== Sys2Proof/Machine/Ops.lean ====
section
/-! DEFINITION. The named operations over memory, the stack and the registers (R5, R6), and the one
sequence by which NMI, IRQ and BRK are taken, with the return from it (R218, R184). -/

namespace Sys2Proof.Machine

/-- What an operation that accesses memory answers: a value, or why the model refuses. -/
abbrev Access (α : Type) := Except Refusal α

/-- A completed computation as the outcome of a step. -/
def finish : Access State → Host.Outcome State Fault Refusal
  | .ok s => .next s
  | .error e => .refused e

/-! ## Memory -/

/-- The region holds the address. -/
def Region.holds (r : Region) (k : Nat) : Bool :=
  decide (r.base ≤ k) && decide (k < r.base + r.size)

/-- R43: the kind an address map gives an address; an address in no region is RAM. -/
def kindIn : List Region → Nat → MemKind
  | [], _ => .ram
  | r :: rest, k => if Region.holds r k then r.kind else kindIn rest k

/-- R43: the kind of an address on this platform. -/
def State.kindAt (s : State) (a : Word) : MemKind := kindIn s.cfg.memMap a.toNat

/-- The byte stored at an address, whatever its kind: how statements look at memory. -/
def State.peek (s : State) (a : Word) : Byte := Memory.read s.mem a.toNat

/-- `MemRead(addr, 1)` (R5, R43): RAM and ROM answer the byte stored there; an access to any other
kind raises `Unmapped(addr)`. -/
def State.memRead (s : State) (a : Word) : Access Byte :=
  match s.kindAt a with
  | .ram => .ok (s.peek a)
  | .rom => .ok (s.peek a)
  | .device => .error (.unmapped a)
  | .unmapped => .error (.unmapped a)

/-- `MemWrite(addr, 1, v)` (R5, R43): RAM stores, ROM is unchanged; an access to any other
kind raises `Unmapped(addr)`. -/
def State.memWrite (s : State) (a : Word) (v : Byte) : Access State :=
  match s.kindAt a with
  | .ram => .ok { s with mem := Memory.write s.mem a.toNat v }
  | .rom => .ok s
  | .device => .error (.unmapped a)
  | .unmapped => .error (.unmapped a)

/-- R45, R49: the word whose low byte is at `lo` and whose high byte is at `hi`, read low byte first. -/
def State.readWord (s : State) (lo hi : Word) : Access Word := do
  let l ← s.memRead lo
  let h ← s.memRead hi
  .ok (mkWord h l)

/-! ## Registers -/

/-- A <- v. -/
def State.setA (s : State) (v : Byte) : State := { s with A := v }

/-- X <- v. -/
def State.setX (s : State) (v : Byte) : State := { s with X := v }

/-- Y <- v. -/
def State.setY (s : State) (v : Byte) : State := { s with Y := v }

/-- S <- v. -/
def State.setS (s : State) (v : Byte) : State := { s with S := v }

/-- pc <- target. -/
def State.setPc (s : State) (target : Word) : State := { s with pc := target }

/-- C <- c. -/
def State.setC (s : State) (c : Bool) : State := { s with C := c }

/-- V <- v. -/
def State.setV (s : State) (v : Bool) : State := { s with V := v }

/-- D <- d. -/
def State.setD (s : State) (d : Bool) : State := { s with D := d }

/-- I <- i. -/
def State.setI (s : State) (i : Bool) : State := { s with I := i }

/-- R6 `setNZ(v)`: N is bit 7 of the result, Z says that it is zero. -/
def State.setNZ (s : State) (v : Byte) : State := { s with N := v.msb, Z := v == 0 }

/-- Step 6 of R7, R14: `pc <- next`, the address after an instruction of `n` bytes, modulo 65536. -/
def State.advance (s : State) (n : Word) : State := s.setPc (s.pc + n)

/-! ## The status byte -/

/-- A flag as one bit of a byte. -/
def flagBit (c : Bool) : BitVec 1 := BitVec.ofBool c

/-- R6, R16, R18 `P_byte(b)`: the byte `N:V:1:b:D:I:Z:C`, bit 7 first. -/
def State.statusByte (s : State) (b : Bool) : Byte :=
  flagBit s.N ++ flagBit s.V ++ flagBit true ++ flagBit b
    ++ flagBit s.D ++ flagBit s.I ++ flagBit s.Z ++ flagBit s.C

/-- R6 `setP(v)`: the six flags from a pulled byte; its bits 5 and 4 are ignored (R18). -/
def State.setP (s : State) (v : Byte) : State :=
  { s with
    N := v.getLsbD 7
    V := v.getLsbD 6
    D := v.getLsbD 3
    I := v.getLsbD 2
    Z := v.getLsbD 1
    C := v.getLsbD 0 }

/-! ## The stack -/

/-- R26: the stack byte at `0x0100 + S`. -/
def stackAddr (sp : Byte) : Word := mkWord 0x01 sp

/-- R6 `push(v)`: store at the next empty location, then decrement S modulo 256 (R28). -/
def State.push (s : State) (v : Byte) : Access State := do
  let t ← s.memWrite (stackAddr s.S) v
  .ok (t.setS (t.S - 1))

/-- R6 `pull()`: increment S modulo 256, then read there. -/
def State.pull (s : State) : Access (Byte × State) := do
  let t := s.setS (s.S + 1)
  let v ← t.memRead (stackAddr t.S)
  .ok (v, t)

/-- R46, R180: a 16-bit address is pushed high byte first. -/
def State.pushWord (s : State) (v : Word) : Access State := do
  let t ← s.push (hiByte v)
  t.push (loByte v)

/-- R46, R180: a 16-bit address is pulled low byte first. -/
def State.pullWord (s : State) : Access (Word × State) := do
  let (lo, t) ← s.pull
  let (hi, u) ← t.pull
  .ok (mkWord hi lo, u)

/-! ## Taking an exception, and the return -/

/-- R53, R219: the vector of IRQ and BRK. -/
def irqVector : Word := 0xFFFE

/-- R53, R219: the vector of NMI. -/
def nmiVector : Word := 0xFFFA

/-- R53, R219, R251: the vector of RESET. -/
def resetVector : Word := 0xFFFC

/-- R219: the address a vector holds, its low byte read first. -/
def State.readVector (s : State) (vector : Word) : Access Word := s.readWord vector (vector + 1)

/-- R218 `enter(vector, b, ret)`, shared by NMI, IRQ and BRK: push the return address and the status
byte (with I as it was), mask interrupts, and go where the vector points. -/
def State.enter (s : State) (vector : Word) (b : Bool) (ret : Word) : Access State := do
  let t ← s.pushWord ret
  let u ← t.push (t.statusByte b)
  let target ← u.readVector vector
  .ok { u with I := true, iPrev := none, pc := target }

/-- R184, R225, the return from NMI, IRQ and BRK: pull the six flags, then pc, and do not add 1. -/
def State.leave (s : State) : Access State := do
  let (v, t) ← s.pull
  let (target, u) ← (t.setP v).pullWord
  .ok (u.setPc target)

end Sys2Proof.Machine
end

