-- ==== Sys2Proof/Machine/Flags.lean ====
section
/-! DEFINITION. Every result and flag computation the spec gives: binary and decimal addition and
subtraction (R151 to R153, R157 to R159, R161), comparison (R154), the bit test (R142) and the shifts
(R131 to R134). Sums are taken exactly and narrowed at the end. -/

namespace Sys2Proof.Machine

/-- The result of an addition or subtraction with its four flags. -/
structure AluResult where
  value : Byte
  n : Bool
  v : Bool
  z : Bool
  c : Bool
  deriving DecidableEq, Repr

/-- The signed range of a byte, -128 to +127, is left (R151, R157, C2). -/
def outsideSigned (x : Int) : Bool := decide (x > 127) || decide (x < -128)

/-! ## Binary mode -/

/-- R151: binary ADC. -/
def adcBinary (a m : Byte) (c : Bool) : AluResult :=
  let sum := a.toNat + m.toNat + bitNat c
  let r : Byte := BitVec.ofNat 8 sum
  { value := r
    n := r.msb
    v := outsideSigned (a.toInt + m.toInt + bitNat c)
    z := r == 0
    c := decide (sum > 255) }

/-- R157: binary SBC; the borrow is the complement of the carry. -/
def sbcBinary (a m : Byte) (c : Bool) : AluResult :=
  let diff : Int := (a.toNat : Int) - m.toNat - (1 - bitNat c)
  let r : Byte := BitVec.ofInt 8 diff
  { value := r
    n := r.msb
    v := outsideSigned (a.toInt - m.toInt - (1 - bitNat c))
    z := r == 0
    c := decide (diff ≥ 0) }

/-! ## Decimal mode on valid BCD -/

/-- The high half `v[7:4]`. -/
def highHalf (v : Byte) : Nat := v.toNat / 16

/-- The low half `v[3:0]`. -/
def lowHalf (v : Byte) : Nat := v.toNat % 16

/-- R152: both halves are 0 to 9. -/
def validBcd (v : Byte) : Bool := decide (highHalf v ≤ 9) && decide (lowHalf v ≤ 9)

/-- R152: `dec(v)`. -/
def decOf (v : Byte) : Nat := 10 * highHalf v + lowHalf v

/-- R152: `bcd(n)`, for n in 0 to 99. -/
def bcdOf (n : Nat) : Byte := BitVec.ofNat 8 (16 * (n / 10) + n % 10)

/-- R152: accumulator and carry of decimal ADC; `none` where an operand is not valid BCD and the
source says nothing. -/
def adcDecimal (a m : Byte) (c : Bool) : Option (Byte × Bool) :=
  if validBcd a && validBcd m then
    let s := decOf a + decOf m + bitNat c
    some (bcdOf (s % 100), decide (s > 99))
  else none

/-- R158: accumulator and carry of decimal SBC; `none` where an operand is not valid BCD. -/
def sbcDecimal (a m : Byte) (c : Bool) : Option (Byte × Bool) :=
  if validBcd a && validBcd m then
    let d : Int := (decOf a : Int) - decOf m - (1 - bitNat c)
    some (bcdOf (d % 100).toNat, decide (d ≥ 0))
  else none

/-! ## Decimal mode by the formulas of R161 -/

/-- The byte with its low half cleared, `v & 0xF0`. -/
def highPart (v : Byte) : Byte := v &&& 0xF0#8

/-- R161: decimal ADC for every input. -/
def adcNmos (a m : Byte) (c : Bool) : AluResult :=
  let al0 := lowHalf a + lowHalf m + bitNat c
  let al := if al0 ≥ 10 then (al0 + 6) % 16 + 16 else al0
  let t := (highPart a).toNat + (highPart m).toNat + al
  let ts : Int := (highPart a).toInt + (highPart m).toInt + al
  let t' := if t ≥ 0xA0 then t + 0x60 else t
  { value := BitVec.ofNat 8 t'
    n := t.testBit 7
    v := outsideSigned ts
    z := (a.toNat + m.toNat + bitNat c) % 256 == 0
    c := decide (t' ≥ 0x100) }

/-- R161: decimal SBC for every input; the four flags are those of binary SBC. -/
def sbcNmos (a m : Byte) (c : Bool) : AluResult :=
  let al0 : Int := (lowHalf a : Int) - lowHalf m + bitNat c - 1
  let al : Int := if al0 < 0 then (al0 - 6) % 16 - 16 else al0
  let u : Int := ((highPart a).toNat : Int) - (highPart m).toNat + al
  let u' : Int := if u < 0 then u - 0x60 else u
  { sbcBinary a m c with value := BitVec.ofInt 8 u' }

/-! ## The state after ADC and SBC -/

/-- Write the accumulator and the four flags of a result. -/
def State.setAlu (s : State) (r : AluResult) : State :=
  { s with A := r.value, N := r.n, V := r.v, Z := r.z, C := r.c }

/-- R153, R159 with `DecimalModel = Draw`: N, V and Z are free values; A and C are `exact` where the
rules give them and free values where they do not. Four draws are used. -/
def State.setDecimalDraw (s : State) (exact : Option (Byte × Bool)) : State :=
  { s with
    A := (exact.map Prod.fst).getD (Config.drawByte s.draws)
    N := Config.drawBit s.draws
    V := Config.drawBit (s.draws + 1)
    Z := Config.drawBit (s.draws + 2)
    C := (exact.map Prod.snd).getD (Config.drawBit (s.draws + 3))
    draws := s.draws + 4 }

/-- R151 to R153: A, N, V, Z and C after ADC of `m`. -/
def State.adc (s : State) (m : Byte) : State :=
  if s.D then
    match s.cfg.decimalModel with
    | .draw => s.setDecimalDraw (adcDecimal s.A m s.C)
    | .nmos => s.setAlu (adcNmos s.A m s.C)
  else s.setAlu (adcBinary s.A m s.C)

/-- R157 to R159: A, N, V, Z and C after SBC of `m`. -/
def State.sbc (s : State) (m : Byte) : State :=
  if s.D then
    match s.cfg.decimalModel with
    | .draw => s.setDecimalDraw (sbcDecimal s.A m s.C)
    | .nmos => s.setAlu (sbcNmos s.A m s.C)
  else s.setAlu (sbcBinary s.A m s.C)

/-! ## Comparison and bit test -/

/-- R154 to R156: C, Z and N after comparing a register's value `r` with `m`; nothing is stored. -/
def State.setCompare (s : State) (r m : Byte) : State :=
  { s with C := decide (r.toNat ≥ m.toNat), Z := r == m, N := (r - m).msb }

/-- R142: N and V from the memory byte itself, Z from its AND with A. -/
def State.setBitTest (s : State) (m : Byte) : State :=
  { s with N := m.getLsbD 7, V := m.getLsbD 6, Z := (s.A &&& m) == 0 }

/-! ## Shifts and rotates -/

/-- A shifted byte and the bit that goes to the carry. -/
structure ShiftResult where
  value : Byte
  carry : Bool
  deriving DecidableEq, Repr

/-- R131: `r[7:1] = v[6:0]`, `r[0] = 0`, C from bit 7. -/
def aslByte (v : Byte) (_c : Bool) : ShiftResult :=
  { value := v.extractLsb' 0 7 ++ (0 : BitVec 1), carry := v.getLsbD 7 }

/-- R132: `r[7] = 0`, `r[6:0] = v[7:1]`, C from bit 0. N follows from the result: it is always 0. -/
def lsrByte (v : Byte) (_c : Bool) : ShiftResult :=
  { value := (0 : BitVec 1) ++ v.extractLsb' 1 7, carry := v.getLsbD 0 }

/-- R133: as ASL with the old carry in bit 0. -/
def rolByte (v : Byte) (c : Bool) : ShiftResult :=
  { value := v.extractLsb' 0 7 ++ flagBit c, carry := v.getLsbD 7 }

/-- R134: as LSR with the old carry in bit 7. -/
def rorByte (v : Byte) (c : Bool) : ShiftResult :=
  { value := flagBit c ++ v.extractLsb' 1 7, carry := v.getLsbD 0 }

/-- R130: C from the bit shifted out, N and Z from the result. -/
def State.setShift (s : State) (r : ShiftResult) : State := (s.setC r.carry).setNZ r.value

end Sys2Proof.Machine
end

