-- ==== Sys2Proof/Machine/Operands.lean ====
section
/-! DEFINITION. The addressing modes (R76 to R88): where the operand of an instruction lies, and
reading and writing it there (R74, R75). -/

namespace Sys2Proof.Machine

/-- The operand forms that address memory. -/
inductive MemOperand where
  | zp (z : Byte)
  | zpX (z : Byte)
  | zpY (z : Byte)
  | abs (a : Word)
  | absX (a : Word)
  | absY (a : Word)
  | indX (z : Byte)
  | indY (z : Byte)
  deriving DecidableEq, Repr

/-- The forms of a read operand (R74): the byte itself (R78) or a byte of memory. -/
inductive ReadOperand where
  | imm (m : Byte)
  | mem (o : MemOperand)
  deriving DecidableEq, Repr

/-- The forms of a read-modify-write operand (R74): A (R77) or a byte of memory. -/
inductive RmwOperand where
  | acc
  | mem (o : MemOperand)
  deriving DecidableEq, Repr

/-- R72: the length of an instruction with this operand. -/
def MemOperand.length : MemOperand → Word
  | .zp _ | .zpX _ | .zpY _ | .indX _ | .indY _ => 2
  | .abs _ | .absX _ | .absY _ => 3

/-- R72: the length of an instruction with this operand. -/
def ReadOperand.length : ReadOperand → Word
  | .imm _ => 2
  | .mem o => o.length

/-- R72: the length of an instruction with this operand. -/
def RmwOperand.length : RmwOperand → Word
  | .acc => 1
  | .mem o => o.length

/-- R87, R88: the pointer in page zero whose low byte is at `z`; its high byte is at `z + 1` modulo
256. -/
def State.zeroPagePointer (s : State) (z : Byte) : Access Word :=
  s.readWord (zext16 z) (zext16 (z + 1))

/-- The effective address, from the operand bytes and the values of X and Y at the start of the
instruction (R75). Zero-page sums wrap modulo 256, all others modulo 65536 (R55). -/
def State.effAddr (s : State) : MemOperand → Access Word
  | .zp z => .ok (zext16 z)                                     -- R79
  | .zpX z => .ok (zext16 (z + s.X))                            -- R80
  | .zpY z => .ok (zext16 (z + s.Y))                            -- R81
  | .abs a => .ok a                                             -- R82
  | .absX a => .ok (a + zext16 s.X)                             -- R83
  | .absY a => .ok (a + zext16 s.Y)                             -- R84
  | .indX z => s.zeroPagePointer (z + s.X)                      -- R87
  | .indY z => do                                               -- R88
    let base ← s.zeroPagePointer z
    .ok (base + zext16 s.Y)

/-- R86: where `JMP (ptr)` reads the high byte of its target: with `JmpIndirectPageBug` the increment
does not carry into the high byte of the pointer. -/
def jmpPointerHigh (pageBug : Bool) (ptr : Word) : Word :=
  if pageBug then mkWord (hiByte ptr) (loByte ptr + 1) else ptr + 1

/-- R86: the target of `JMP (ptr)`. -/
def State.jmpIndirectTarget (s : State) (ptr : Word) : Access Word :=
  s.readWord ptr (jmpPointerHigh s.cfg.jmpIndirectPageBug ptr)

/-- R85, R190: the target of a taken branch at `pc` with offset byte `off`. -/
def branchTarget (pc : Word) (off : Byte) : Word := pc + 2 + sext16 off

/-- The operand M of a reading instruction (R74, R78). -/
def State.readOperand (s : State) : ReadOperand → Access Byte
  | .imm m => .ok m
  | .mem o => do
    let ea ← s.effAddr o
    s.memRead ea

/-- R74: store `v` at the operand's effective address, without reading there. -/
def State.writeOperand (s : State) (o : MemOperand) (v : Byte) : Access State := do
  let ea ← s.effAddr o
  s.memWrite ea v

/-- R74, R130, R170: read the operand `v`, write the new byte `g v` back to where it came from, and set
the flags. The effective address is computed once (R75). -/
def State.modifyOperand (s : State) (o : RmwOperand) (g : Byte → Byte)
    (flags : Byte → State → State) : Access State :=
  match o with
  | .acc => .ok (flags s.A (s.setA (g s.A)))
  | .mem o => do
    let ea ← s.effAddr o
    let v ← s.memRead ea
    let t ← s.memWrite ea (g v)
    .ok (flags v t)

end Sys2Proof.Machine
end

