-- ==== Sys2Proof/Machine/Arith.lean ====
section
/-! DEFINITION. Arithmetic and comparison (R150 to R161). -/

namespace Sys2Proof.Machine

/-- R154 to R156: compare a register's value with the operand. -/
def compareWith (r : Byte) (o : ReadOperand) (s : State) : Access State := do
  let m ← s.readOperand o
  .ok ((s.setCompare r m).advance o.length)

/-- R151 to R153. -/
def addWithCarry (o : ReadOperand) (s : State) : Host.Outcome State Fault Refusal :=
  finish do
    let m ← s.readOperand o
    .ok ((s.adc m).advance o.length)

/-- R157 to R159. -/
def subtractWithBorrow (o : ReadOperand) (s : State) : Host.Outcome State Fault Refusal :=
  finish do
    let m ← s.readOperand o
    .ok ((s.sbc m).advance o.length)

/-- R154. -/
def compareA (o : ReadOperand) (s : State) : Host.Outcome State Fault Refusal :=
  finish (compareWith s.A o s)

/-- R155. -/
def compareX (o : ReadOperand) (s : State) : Host.Outcome State Fault Refusal :=
  finish (compareWith s.X o s)

/-- R156. -/
def compareY (o : ReadOperand) (s : State) : Host.Outcome State Fault Refusal :=
  finish (compareWith s.Y o s)

/-- ADC `$69`, Immediate: R151, R78. -/
def execAdcImm (m : Byte) (s : State) : Host.Outcome State Fault Refusal :=
  addWithCarry (.imm m) s

/-- ADC `$65`, Zero Page: R151, R79. -/
def execAdcZp (z : Byte) (s : State) : Host.Outcome State Fault Refusal :=
  addWithCarry (.mem (.zp z)) s

/-- ADC `$75`, X-Indexed Zero Page: R151, R80. -/
def execAdcZpX (z : Byte) (s : State) : Host.Outcome State Fault Refusal :=
  addWithCarry (.mem (.zpX z)) s

/-- ADC `$6D`, Absolute: R151, R82. -/
def execAdcAbs (a : Word) (s : State) : Host.Outcome State Fault Refusal :=
  addWithCarry (.mem (.abs a)) s

/-- ADC `$7D`, X-Indexed Absolute: R151, R83. -/
def execAdcAbsX (a : Word) (s : State) : Host.Outcome State Fault Refusal :=
  addWithCarry (.mem (.absX a)) s

/-- ADC `$79`, Y-Indexed Absolute: R151, R84. -/
def execAdcAbsY (a : Word) (s : State) : Host.Outcome State Fault Refusal :=
  addWithCarry (.mem (.absY a)) s

/-- ADC `$61`, X-Indexed Zero Page Indirect: R151, R87. -/
def execAdcIndX (z : Byte) (s : State) : Host.Outcome State Fault Refusal :=
  addWithCarry (.mem (.indX z)) s

/-- ADC `$71`, Zero Page Indirect Y-Indexed: R151, R88. -/
def execAdcIndY (z : Byte) (s : State) : Host.Outcome State Fault Refusal :=
  addWithCarry (.mem (.indY z)) s

/-- CMP `$C9`, Immediate: R154, R78. -/
def execCmpImm (m : Byte) (s : State) : Host.Outcome State Fault Refusal :=
  compareA (.imm m) s

/-- CMP `$C5`, Zero Page: R154, R79. -/
def execCmpZp (z : Byte) (s : State) : Host.Outcome State Fault Refusal :=
  compareA (.mem (.zp z)) s

/-- CMP `$D5`, X-Indexed Zero Page: R154, R80. -/
def execCmpZpX (z : Byte) (s : State) : Host.Outcome State Fault Refusal :=
  compareA (.mem (.zpX z)) s

/-- CMP `$CD`, Absolute: R154, R82. -/
def execCmpAbs (a : Word) (s : State) : Host.Outcome State Fault Refusal :=
  compareA (.mem (.abs a)) s

/-- CMP `$DD`, X-Indexed Absolute: R154, R83. -/
def execCmpAbsX (a : Word) (s : State) : Host.Outcome State Fault Refusal :=
  compareA (.mem (.absX a)) s

/-- CMP `$D9`, Y-Indexed Absolute: R154, R84. -/
def execCmpAbsY (a : Word) (s : State) : Host.Outcome State Fault Refusal :=
  compareA (.mem (.absY a)) s

/-- CMP `$C1`, X-Indexed Zero Page Indirect: R154, R87. -/
def execCmpIndX (z : Byte) (s : State) : Host.Outcome State Fault Refusal :=
  compareA (.mem (.indX z)) s

/-- CMP `$D1`, Zero Page Indirect Y-Indexed: R154, R88. -/
def execCmpIndY (z : Byte) (s : State) : Host.Outcome State Fault Refusal :=
  compareA (.mem (.indY z)) s

/-- CPX `$E0`, Immediate: R155, R78. -/
def execCpxImm (m : Byte) (s : State) : Host.Outcome State Fault Refusal :=
  compareX (.imm m) s

/-- CPX `$E4`, Zero Page: R155, R79. -/
def execCpxZp (z : Byte) (s : State) : Host.Outcome State Fault Refusal :=
  compareX (.mem (.zp z)) s

/-- CPX `$EC`, Absolute: R155, R82. -/
def execCpxAbs (a : Word) (s : State) : Host.Outcome State Fault Refusal :=
  compareX (.mem (.abs a)) s

/-- CPY `$C0`, Immediate: R156, R78. -/
def execCpyImm (m : Byte) (s : State) : Host.Outcome State Fault Refusal :=
  compareY (.imm m) s

/-- CPY `$C4`, Zero Page: R156, R79. -/
def execCpyZp (z : Byte) (s : State) : Host.Outcome State Fault Refusal :=
  compareY (.mem (.zp z)) s

/-- CPY `$CC`, Absolute: R156, R82. -/
def execCpyAbs (a : Word) (s : State) : Host.Outcome State Fault Refusal :=
  compareY (.mem (.abs a)) s

/-- SBC `$E9`, Immediate: R157, R78. -/
def execSbcImm (m : Byte) (s : State) : Host.Outcome State Fault Refusal :=
  subtractWithBorrow (.imm m) s

/-- SBC `$E5`, Zero Page: R157, R79. -/
def execSbcZp (z : Byte) (s : State) : Host.Outcome State Fault Refusal :=
  subtractWithBorrow (.mem (.zp z)) s

/-- SBC `$F5`, X-Indexed Zero Page: R157, R80. -/
def execSbcZpX (z : Byte) (s : State) : Host.Outcome State Fault Refusal :=
  subtractWithBorrow (.mem (.zpX z)) s

/-- SBC `$ED`, Absolute: R157, R82. -/
def execSbcAbs (a : Word) (s : State) : Host.Outcome State Fault Refusal :=
  subtractWithBorrow (.mem (.abs a)) s

/-- SBC `$FD`, X-Indexed Absolute: R157, R83. -/
def execSbcAbsX (a : Word) (s : State) : Host.Outcome State Fault Refusal :=
  subtractWithBorrow (.mem (.absX a)) s

/-- SBC `$F9`, Y-Indexed Absolute: R157, R84. -/
def execSbcAbsY (a : Word) (s : State) : Host.Outcome State Fault Refusal :=
  subtractWithBorrow (.mem (.absY a)) s

/-- SBC `$E1`, X-Indexed Zero Page Indirect: R157, R87. -/
def execSbcIndX (z : Byte) (s : State) : Host.Outcome State Fault Refusal :=
  subtractWithBorrow (.mem (.indX z)) s

/-- SBC `$F1`, Zero Page Indirect Y-Indexed: R157, R88. -/
def execSbcIndY (z : Byte) (s : State) : Host.Outcome State Fault Refusal :=
  subtractWithBorrow (.mem (.indY z)) s

end Sys2Proof.Machine
end

