-- ==== Sys2Proof/Machine/Branch.lean ====
section
/-! DEFINITION. Conditional branches (R190 to R198). -/

namespace Sys2Proof.Machine

/-- R190: pc becomes the target if the branch is taken, and the next address otherwise. -/
def branchIf (taken : Bool) (off : Byte) (s : State) : Host.Outcome State Fault Refusal :=
  .next (if taken then s.setPc (branchTarget s.pc off) else s.advance 2)

/-- BCC `$90`, Relative: R191, R85. -/
def execBcc (off : Byte) (s : State) : Host.Outcome State Fault Refusal :=
  branchIf (!s.C) off s

/-- BCS `$B0`, Relative: R192, R85. -/
def execBcs (off : Byte) (s : State) : Host.Outcome State Fault Refusal :=
  branchIf s.C off s

/-- BEQ `$F0`, Relative: R193, R85. -/
def execBeq (off : Byte) (s : State) : Host.Outcome State Fault Refusal :=
  branchIf s.Z off s

/-- BMI `$30`, Relative: R194, R85. -/
def execBmi (off : Byte) (s : State) : Host.Outcome State Fault Refusal :=
  branchIf s.N off s

/-- BNE `$D0`, Relative: R195, R85. -/
def execBne (off : Byte) (s : State) : Host.Outcome State Fault Refusal :=
  branchIf (!s.Z) off s

/-- BPL `$10`, Relative: R196, R85. -/
def execBpl (off : Byte) (s : State) : Host.Outcome State Fault Refusal :=
  branchIf (!s.N) off s

/-- BVC `$50`, Relative: R197, R85. -/
def execBvc (off : Byte) (s : State) : Host.Outcome State Fault Refusal :=
  branchIf (!s.V) off s

/-- BVS `$70`, Relative: R198, R85. -/
def execBvs (off : Byte) (s : State) : Host.Outcome State Fault Refusal :=
  branchIf s.V off s

end Sys2Proof.Machine
end

