-- ==== Sys2Proof/Machine/Control.lean ====
section
/-! DEFINITION. Control transfers (R180 to R186). Each writes pc itself. -/

namespace Sys2Proof.Machine

/-- BRK `$00`, Implied: R181, R76. -/
def execBrk (s : State) : Host.Outcome State Fault Refusal :=
  finish (s.enter irqVector true (s.pc + 2))

/-- JMP `$4C`, Absolute: R182, R82. -/
def execJmpAbs (a : Word) (s : State) : Host.Outcome State Fault Refusal :=
  .next (s.setPc a)

/-- JMP `$6C`, Absolute Indirect: R182, R86. -/
def execJmpInd (a : Word) (s : State) : Host.Outcome State Fault Refusal :=
  finish do
    let target ← s.jmpIndirectTarget a
    .ok (s.setPc target)

/-- JSR `$20`, Absolute: R183, R82. -/
def execJsr (a : Word) (s : State) : Host.Outcome State Fault Refusal :=
  finish do
    let t ← s.pushWord (s.pc + 2)
    .ok (t.setPc a)

/-- RTI `$40`, Implied: R184, R76. -/
def execRti (s : State) : Host.Outcome State Fault Refusal :=
  finish s.leave

/-- RTS `$60`, Implied: R185, R76. -/
def execRts (s : State) : Host.Outcome State Fault Refusal :=
  finish do
    let (target, t) ← s.pullWord
    .ok (t.setPc (target + 1))

end Sys2Proof.Machine
end

