-- ==== Sys2Proof/Machine/FlagInstr.lean ====
section
/-! DEFINITION. The flag instructions and NOP (R200 to R208). -/

namespace Sys2Proof.Machine

/-- CLC `$18`, Implied: R201, R76. -/
def execClc (s : State) : Host.Outcome State Fault Refusal :=
  .next ((s.setC false).advance 1)

/-- CLD `$D8`, Implied: R202, R76. -/
def execCld (s : State) : Host.Outcome State Fault Refusal :=
  .next ((s.setD false).advance 1)

/-- CLI `$58`, Implied: R203, R76. -/
def execCli (s : State) : Host.Outcome State Fault Refusal :=
  .next ((s.setI false).advance 1)

/-- CLV `$B8`, Implied: R204, R76. -/
def execClv (s : State) : Host.Outcome State Fault Refusal :=
  .next ((s.setV false).advance 1)

/-- SEC `$38`, Implied: R205, R76. -/
def execSec (s : State) : Host.Outcome State Fault Refusal :=
  .next ((s.setC true).advance 1)

/-- SED `$F8`, Implied: R206, R76. -/
def execSed (s : State) : Host.Outcome State Fault Refusal :=
  .next ((s.setD true).advance 1)

/-- SEI `$78`, Implied: R207, R76. -/
def execSei (s : State) : Host.Outcome State Fault Refusal :=
  .next ((s.setI true).advance 1)

/-- NOP `$EA`, Implied: R208, R76. -/
def execNop (s : State) : Host.Outcome State Fault Refusal :=
  .next (s.advance 1)

end Sys2Proof.Machine
end

