-- ==== Sys2Proof/Machine/IncDec.lean ====
section
/-! DEFINITION. Increments and decrements (R170 to R176). -/

namespace Sys2Proof.Machine

/-- R170: change a byte of memory in place; N and Z from the result. -/
def stepMemory (g : Byte → Byte) (o : MemOperand) (s : State) : Access State := do
  let t ← s.modifyOperand (.mem o) g (fun v t => t.setNZ (g v))
  .ok (t.advance o.length)

/-- R174. -/
def incrementMemory (o : MemOperand) (s : State) : Host.Outcome State Fault Refusal :=
  finish (stepMemory (fun v => v + 1) o s)

/-- R171. -/
def decrementMemory (o : MemOperand) (s : State) : Host.Outcome State Fault Refusal :=
  finish (stepMemory (fun v => v - 1) o s)

/-- DEC `$C6`, Zero Page: R171, R79. -/
def execDecZp (z : Byte) (s : State) : Host.Outcome State Fault Refusal :=
  decrementMemory (.zp z) s

/-- DEC `$D6`, X-Indexed Zero Page: R171, R80. -/
def execDecZpX (z : Byte) (s : State) : Host.Outcome State Fault Refusal :=
  decrementMemory (.zpX z) s

/-- DEC `$CE`, Absolute: R171, R82. -/
def execDecAbs (a : Word) (s : State) : Host.Outcome State Fault Refusal :=
  decrementMemory (.abs a) s

/-- DEC `$DE`, X-Indexed Absolute: R171, R83. -/
def execDecAbsX (a : Word) (s : State) : Host.Outcome State Fault Refusal :=
  decrementMemory (.absX a) s

/-- DEX `$CA`, Implied: R172, R76. -/
def execDex (s : State) : Host.Outcome State Fault Refusal :=
  .next (((s.setX (s.X - 1)).setNZ (s.X - 1)).advance 1)

/-- DEY `$88`, Implied: R173, R76. -/
def execDey (s : State) : Host.Outcome State Fault Refusal :=
  .next (((s.setY (s.Y - 1)).setNZ (s.Y - 1)).advance 1)

/-- INC `$E6`, Zero Page: R174, R79. -/
def execIncZp (z : Byte) (s : State) : Host.Outcome State Fault Refusal :=
  incrementMemory (.zp z) s

/-- INC `$F6`, X-Indexed Zero Page: R174, R80. -/
def execIncZpX (z : Byte) (s : State) : Host.Outcome State Fault Refusal :=
  incrementMemory (.zpX z) s

/-- INC `$EE`, Absolute: R174, R82. -/
def execIncAbs (a : Word) (s : State) : Host.Outcome State Fault Refusal :=
  incrementMemory (.abs a) s

/-- INC `$FE`, X-Indexed Absolute: R174, R83. -/
def execIncAbsX (a : Word) (s : State) : Host.Outcome State Fault Refusal :=
  incrementMemory (.absX a) s

/-- INX `$E8`, Implied: R175, R76. -/
def execInx (s : State) : Host.Outcome State Fault Refusal :=
  .next (((s.setX (s.X + 1)).setNZ (s.X + 1)).advance 1)

/-- INY `$C8`, Implied: R176, R76. -/
def execIny (s : State) : Host.Outcome State Fault Refusal :=
  .next (((s.setY (s.Y + 1)).setNZ (s.Y + 1)).advance 1)

end Sys2Proof.Machine
end

