-- ==== Sys2Proof/Machine/Load.lean ====
section
/-! DEFINITION. Loads and stores (R100 to R106). -/

namespace Sys2Proof.Machine

/-- R100: read the operand, put it in a register, set N and Z from it. -/
def loadWith (put : State → Byte → State) (o : ReadOperand) (s : State) : Access State := do
  let v ← s.readOperand o
  .ok (((put s v).setNZ v).advance o.length)

/-- R100: write a register to the effective address; no flag changes. -/
def storeWith (v : Byte) (o : MemOperand) (s : State) : Access State := do
  let t ← s.writeOperand o v
  .ok (t.advance o.length)

/-- R101. -/
def loadA (o : ReadOperand) (s : State) : Host.Outcome State Fault Refusal :=
  finish (loadWith State.setA o s)

/-- R102. -/
def loadX (o : ReadOperand) (s : State) : Host.Outcome State Fault Refusal :=
  finish (loadWith State.setX o s)

/-- R103. -/
def loadY (o : ReadOperand) (s : State) : Host.Outcome State Fault Refusal :=
  finish (loadWith State.setY o s)

/-- R104. -/
def storeA (o : MemOperand) (s : State) : Host.Outcome State Fault Refusal :=
  finish (storeWith s.A o s)

/-- R105. -/
def storeX (o : MemOperand) (s : State) : Host.Outcome State Fault Refusal :=
  finish (storeWith s.X o s)

/-- R106. -/
def storeY (o : MemOperand) (s : State) : Host.Outcome State Fault Refusal :=
  finish (storeWith s.Y o s)

/-- LDA `$A9`, Immediate: R101, R78. -/
def execLdaImm (m : Byte) (s : State) : Host.Outcome State Fault Refusal :=
  loadA (.imm m) s

/-- LDA `$A5`, Zero Page: R101, R79. -/
def execLdaZp (z : Byte) (s : State) : Host.Outcome State Fault Refusal :=
  loadA (.mem (.zp z)) s

/-- LDA `$B5`, X-Indexed Zero Page: R101, R80. -/
def execLdaZpX (z : Byte) (s : State) : Host.Outcome State Fault Refusal :=
  loadA (.mem (.zpX z)) s

/-- LDA `$AD`, Absolute: R101, R82. -/
def execLdaAbs (a : Word) (s : State) : Host.Outcome State Fault Refusal :=
  loadA (.mem (.abs a)) s

/-- LDA `$BD`, X-Indexed Absolute: R101, R83. -/
def execLdaAbsX (a : Word) (s : State) : Host.Outcome State Fault Refusal :=
  loadA (.mem (.absX a)) s

/-- LDA `$B9`, Y-Indexed Absolute: R101, R84. -/
def execLdaAbsY (a : Word) (s : State) : Host.Outcome State Fault Refusal :=
  loadA (.mem (.absY a)) s

/-- LDA `$A1`, X-Indexed Zero Page Indirect: R101, R87. -/
def execLdaIndX (z : Byte) (s : State) : Host.Outcome State Fault Refusal :=
  loadA (.mem (.indX z)) s

/-- LDA `$B1`, Zero Page Indirect Y-Indexed: R101, R88. -/
def execLdaIndY (z : Byte) (s : State) : Host.Outcome State Fault Refusal :=
  loadA (.mem (.indY z)) s

/-- LDX `$A2`, Immediate: R102, R78. -/
def execLdxImm (m : Byte) (s : State) : Host.Outcome State Fault Refusal :=
  loadX (.imm m) s

/-- LDX `$A6`, Zero Page: R102, R79. -/
def execLdxZp (z : Byte) (s : State) : Host.Outcome State Fault Refusal :=
  loadX (.mem (.zp z)) s

/-- LDX `$B6`, Y-Indexed Zero Page: R102, R81. -/
def execLdxZpY (z : Byte) (s : State) : Host.Outcome State Fault Refusal :=
  loadX (.mem (.zpY z)) s

/-- LDX `$AE`, Absolute: R102, R82. -/
def execLdxAbs (a : Word) (s : State) : Host.Outcome State Fault Refusal :=
  loadX (.mem (.abs a)) s

/-- LDX `$BE`, Y-Indexed Absolute: R102, R84. -/
def execLdxAbsY (a : Word) (s : State) : Host.Outcome State Fault Refusal :=
  loadX (.mem (.absY a)) s

/-- LDY `$A0`, Immediate: R103, R78. -/
def execLdyImm (m : Byte) (s : State) : Host.Outcome State Fault Refusal :=
  loadY (.imm m) s

/-- LDY `$A4`, Zero Page: R103, R79. -/
def execLdyZp (z : Byte) (s : State) : Host.Outcome State Fault Refusal :=
  loadY (.mem (.zp z)) s

/-- LDY `$B4`, X-Indexed Zero Page: R103, R80. -/
def execLdyZpX (z : Byte) (s : State) : Host.Outcome State Fault Refusal :=
  loadY (.mem (.zpX z)) s

/-- LDY `$AC`, Absolute: R103, R82. -/
def execLdyAbs (a : Word) (s : State) : Host.Outcome State Fault Refusal :=
  loadY (.mem (.abs a)) s

/-- LDY `$BC`, X-Indexed Absolute: R103, R83. -/
def execLdyAbsX (a : Word) (s : State) : Host.Outcome State Fault Refusal :=
  loadY (.mem (.absX a)) s

/-- STA `$85`, Zero Page: R104, R79. -/
def execStaZp (z : Byte) (s : State) : Host.Outcome State Fault Refusal :=
  storeA (.zp z) s

/-- STA `$95`, X-Indexed Zero Page: R104, R80. -/
def execStaZpX (z : Byte) (s : State) : Host.Outcome State Fault Refusal :=
  storeA (.zpX z) s

/-- STA `$8D`, Absolute: R104, R82. -/
def execStaAbs (a : Word) (s : State) : Host.Outcome State Fault Refusal :=
  storeA (.abs a) s

/-- STA `$9D`, X-Indexed Absolute: R104, R83. -/
def execStaAbsX (a : Word) (s : State) : Host.Outcome State Fault Refusal :=
  storeA (.absX a) s

/-- STA `$99`, Y-Indexed Absolute: R104, R84. -/
def execStaAbsY (a : Word) (s : State) : Host.Outcome State Fault Refusal :=
  storeA (.absY a) s

/-- STA `$81`, X-Indexed Zero Page Indirect: R104, R87. -/
def execStaIndX (z : Byte) (s : State) : Host.Outcome State Fault Refusal :=
  storeA (.indX z) s

/-- STA `$91`, Zero Page Indirect Y-Indexed: R104, R88. -/
def execStaIndY (z : Byte) (s : State) : Host.Outcome State Fault Refusal :=
  storeA (.indY z) s

/-- STX `$86`, Zero Page: R105, R79. -/
def execStxZp (z : Byte) (s : State) : Host.Outcome State Fault Refusal :=
  storeX (.zp z) s

/-- STX `$96`, Y-Indexed Zero Page: R105, R81. -/
def execStxZpY (z : Byte) (s : State) : Host.Outcome State Fault Refusal :=
  storeX (.zpY z) s

/-- STX `$8E`, Absolute: R105, R82. -/
def execStxAbs (a : Word) (s : State) : Host.Outcome State Fault Refusal :=
  storeX (.abs a) s

/-- STY `$84`, Zero Page: R106, R79. -/
def execStyZp (z : Byte) (s : State) : Host.Outcome State Fault Refusal :=
  storeY (.zp z) s

/-- STY `$94`, X-Indexed Zero Page: R106, R80. -/
def execStyZpX (z : Byte) (s : State) : Host.Outcome State Fault Refusal :=
  storeY (.zpX z) s

/-- STY `$8C`, Absolute: R106, R82. -/
def execStyAbs (a : Word) (s : State) : Host.Outcome State Fault Refusal :=
  storeY (.abs a) s

end Sys2Proof.Machine
end

