-- ==== Sys2Proof/Machine/Logic.lean ====
section
/-! DEFINITION. Logic (R140 to R144). -/

namespace Sys2Proof.Machine

/-- R140: combine A with the operand, bit by bit; N and Z from the result. -/
def logicWith (f : Byte → Byte → Byte) (o : ReadOperand) (s : State) : Access State := do
  let m ← s.readOperand o
  .ok (((s.setA (f s.A m)).setNZ (f s.A m)).advance o.length)

/-- R141. -/
def logicAnd (o : ReadOperand) (s : State) : Host.Outcome State Fault Refusal :=
  finish (logicWith (fun a m => a &&& m) o s)

/-- R143. -/
def logicXor (o : ReadOperand) (s : State) : Host.Outcome State Fault Refusal :=
  finish (logicWith (fun a m => a ^^^ m) o s)

/-- R144. -/
def logicOr (o : ReadOperand) (s : State) : Host.Outcome State Fault Refusal :=
  finish (logicWith (fun a m => a ||| m) o s)

/-- R142. -/
def bitTest (o : MemOperand) (s : State) : Host.Outcome State Fault Refusal :=
  finish do
    let m ← s.readOperand (.mem o)
    .ok ((s.setBitTest m).advance o.length)

/-- AND `$29`, Immediate: R141, R78. -/
def execAndImm (m : Byte) (s : State) : Host.Outcome State Fault Refusal :=
  logicAnd (.imm m) s

/-- AND `$25`, Zero Page: R141, R79. -/
def execAndZp (z : Byte) (s : State) : Host.Outcome State Fault Refusal :=
  logicAnd (.mem (.zp z)) s

/-- AND `$35`, X-Indexed Zero Page: R141, R80. -/
def execAndZpX (z : Byte) (s : State) : Host.Outcome State Fault Refusal :=
  logicAnd (.mem (.zpX z)) s

/-- AND `$2D`, Absolute: R141, R82. -/
def execAndAbs (a : Word) (s : State) : Host.Outcome State Fault Refusal :=
  logicAnd (.mem (.abs a)) s

/-- AND `$3D`, X-Indexed Absolute: R141, R83. -/
def execAndAbsX (a : Word) (s : State) : Host.Outcome State Fault Refusal :=
  logicAnd (.mem (.absX a)) s

/-- AND `$39`, Y-Indexed Absolute: R141, R84. -/
def execAndAbsY (a : Word) (s : State) : Host.Outcome State Fault Refusal :=
  logicAnd (.mem (.absY a)) s

/-- AND `$21`, X-Indexed Zero Page Indirect: R141, R87. -/
def execAndIndX (z : Byte) (s : State) : Host.Outcome State Fault Refusal :=
  logicAnd (.mem (.indX z)) s

/-- AND `$31`, Zero Page Indirect Y-Indexed: R141, R88. -/
def execAndIndY (z : Byte) (s : State) : Host.Outcome State Fault Refusal :=
  logicAnd (.mem (.indY z)) s

/-- BIT `$24`, Zero Page: R142, R79. -/
def execBitZp (z : Byte) (s : State) : Host.Outcome State Fault Refusal :=
  bitTest (.zp z) s

/-- BIT `$2C`, Absolute: R142, R82. -/
def execBitAbs (a : Word) (s : State) : Host.Outcome State Fault Refusal :=
  bitTest (.abs a) s

/-- EOR `$49`, Immediate: R143, R78. -/
def execEorImm (m : Byte) (s : State) : Host.Outcome State Fault Refusal :=
  logicXor (.imm m) s

/-- EOR `$45`, Zero Page: R143, R79. -/
def execEorZp (z : Byte) (s : State) : Host.Outcome State Fault Refusal :=
  logicXor (.mem (.zp z)) s

/-- EOR `$55`, X-Indexed Zero Page: R143, R80. -/
def execEorZpX (z : Byte) (s : State) : Host.Outcome State Fault Refusal :=
  logicXor (.mem (.zpX z)) s

/-- EOR `$4D`, Absolute: R143, R82. -/
def execEorAbs (a : Word) (s : State) : Host.Outcome State Fault Refusal :=
  logicXor (.mem (.abs a)) s

/-- EOR `$5D`, X-Indexed Absolute: R143, R83. -/
def execEorAbsX (a : Word) (s : State) : Host.Outcome State Fault Refusal :=
  logicXor (.mem (.absX a)) s

/-- EOR `$59`, Y-Indexed Absolute: R143, R84. -/
def execEorAbsY (a : Word) (s : State) : Host.Outcome State Fault Refusal :=
  logicXor (.mem (.absY a)) s

/-- EOR `$41`, X-Indexed Zero Page Indirect: R143, R87. -/
def execEorIndX (z : Byte) (s : State) : Host.Outcome State Fault Refusal :=
  logicXor (.mem (.indX z)) s

/-- EOR `$51`, Zero Page Indirect Y-Indexed: R143, R88. -/
def execEorIndY (z : Byte) (s : State) : Host.Outcome State Fault Refusal :=
  logicXor (.mem (.indY z)) s

/-- ORA `$09`, Immediate: R144, R78. -/
def execOraImm (m : Byte) (s : State) : Host.Outcome State Fault Refusal :=
  logicOr (.imm m) s

/-- ORA `$05`, Zero Page: R144, R79. -/
def execOraZp (z : Byte) (s : State) : Host.Outcome State Fault Refusal :=
  logicOr (.mem (.zp z)) s

/-- ORA `$15`, X-Indexed Zero Page: R144, R80. -/
def execOraZpX (z : Byte) (s : State) : Host.Outcome State Fault Refusal :=
  logicOr (.mem (.zpX z)) s

/-- ORA `$0D`, Absolute: R144, R82. -/
def execOraAbs (a : Word) (s : State) : Host.Outcome State Fault Refusal :=
  logicOr (.mem (.abs a)) s

/-- ORA `$1D`, X-Indexed Absolute: R144, R83. -/
def execOraAbsX (a : Word) (s : State) : Host.Outcome State Fault Refusal :=
  logicOr (.mem (.absX a)) s

/-- ORA `$19`, Y-Indexed Absolute: R144, R84. -/
def execOraAbsY (a : Word) (s : State) : Host.Outcome State Fault Refusal :=
  logicOr (.mem (.absY a)) s

/-- ORA `$01`, X-Indexed Zero Page Indirect: R144, R87. -/
def execOraIndX (z : Byte) (s : State) : Host.Outcome State Fault Refusal :=
  logicOr (.mem (.indX z)) s

/-- ORA `$11`, Zero Page Indirect Y-Indexed: R144, R88. -/
def execOraIndY (z : Byte) (s : State) : Host.Outcome State Fault Refusal :=
  logicOr (.mem (.indY z)) s

end Sys2Proof.Machine
end

