-- ==== Sys2Proof/Machine/Shift.lean ====
section
/-! DEFINITION. Shifts and rotates (R130 to R134). -/

namespace Sys2Proof.Machine

/-- R130: shift the operand by one position in its place; C from the bit shifted out, N and Z from the
result. -/
def shiftWith (f : Byte → Bool → ShiftResult) (o : RmwOperand) (s : State) : Access State := do
  let t ← s.modifyOperand o (fun v => (f v s.C).value) (fun v t => t.setShift (f v s.C))
  .ok (t.advance o.length)

/-- R131. -/
def shiftLeft (o : RmwOperand) (s : State) : Host.Outcome State Fault Refusal :=
  finish (shiftWith aslByte o s)

/-- R132. -/
def shiftRight (o : RmwOperand) (s : State) : Host.Outcome State Fault Refusal :=
  finish (shiftWith lsrByte o s)

/-- R133. -/
def rotateLeft (o : RmwOperand) (s : State) : Host.Outcome State Fault Refusal :=
  finish (shiftWith rolByte o s)

/-- R134. -/
def rotateRight (o : RmwOperand) (s : State) : Host.Outcome State Fault Refusal :=
  finish (shiftWith rorByte o s)

/-- ASL `$0A`, Accumulator: R131, R77. -/
def execAslAcc (s : State) : Host.Outcome State Fault Refusal :=
  shiftLeft .acc s

/-- ASL `$06`, Zero Page: R131, R79. -/
def execAslZp (z : Byte) (s : State) : Host.Outcome State Fault Refusal :=
  shiftLeft (.mem (.zp z)) s

/-- ASL `$16`, X-Indexed Zero Page: R131, R80. -/
def execAslZpX (z : Byte) (s : State) : Host.Outcome State Fault Refusal :=
  shiftLeft (.mem (.zpX z)) s

/-- ASL `$0E`, Absolute: R131, R82. -/
def execAslAbs (a : Word) (s : State) : Host.Outcome State Fault Refusal :=
  shiftLeft (.mem (.abs a)) s

/-- ASL `$1E`, X-Indexed Absolute: R131, R83. -/
def execAslAbsX (a : Word) (s : State) : Host.Outcome State Fault Refusal :=
  shiftLeft (.mem (.absX a)) s

/-- LSR `$4A`, Accumulator: R132, R77. -/
def execLsrAcc (s : State) : Host.Outcome State Fault Refusal :=
  shiftRight .acc s

/-- LSR `$46`, Zero Page: R132, R79. -/
def execLsrZp (z : Byte) (s : State) : Host.Outcome State Fault Refusal :=
  shiftRight (.mem (.zp z)) s

/-- LSR `$56`, X-Indexed Zero Page: R132, R80. -/
def execLsrZpX (z : Byte) (s : State) : Host.Outcome State Fault Refusal :=
  shiftRight (.mem (.zpX z)) s

/-- LSR `$4E`, Absolute: R132, R82. -/
def execLsrAbs (a : Word) (s : State) : Host.Outcome State Fault Refusal :=
  shiftRight (.mem (.abs a)) s

/-- LSR `$5E`, X-Indexed Absolute: R132, R83. -/
def execLsrAbsX (a : Word) (s : State) : Host.Outcome State Fault Refusal :=
  shiftRight (.mem (.absX a)) s

/-- ROL `$2A`, Accumulator: R133, R77. -/
def execRolAcc (s : State) : Host.Outcome State Fault Refusal :=
  rotateLeft .acc s

/-- ROL `$26`, Zero Page: R133, R79. -/
def execRolZp (z : Byte) (s : State) : Host.Outcome State Fault Refusal :=
  rotateLeft (.mem (.zp z)) s

/-- ROL `$36`, X-Indexed Zero Page: R133, R80. -/
def execRolZpX (z : Byte) (s : State) : Host.Outcome State Fault Refusal :=
  rotateLeft (.mem (.zpX z)) s

/-- ROL `$2E`, Absolute: R133, R82. -/
def execRolAbs (a : Word) (s : State) : Host.Outcome State Fault Refusal :=
  rotateLeft (.mem (.abs a)) s

/-- ROL `$3E`, X-Indexed Absolute: R133, R83. -/
def execRolAbsX (a : Word) (s : State) : Host.Outcome State Fault Refusal :=
  rotateLeft (.mem (.absX a)) s

/-- ROR `$6A`, Accumulator: R134, R77. -/
def execRorAcc (s : State) : Host.Outcome State Fault Refusal :=
  rotateRight .acc s

/-- ROR `$66`, Zero Page: R134, R79. -/
def execRorZp (z : Byte) (s : State) : Host.Outcome State Fault Refusal :=
  rotateRight (.mem (.zp z)) s

/-- ROR `$76`, X-Indexed Zero Page: R134, R80. -/
def execRorZpX (z : Byte) (s : State) : Host.Outcome State Fault Refusal :=
  rotateRight (.mem (.zpX z)) s

/-- ROR `$6E`, Absolute: R134, R82. -/
def execRorAbs (a : Word) (s : State) : Host.Outcome State Fault Refusal :=
  rotateRight (.mem (.abs a)) s

/-- ROR `$7E`, X-Indexed Absolute: R134, R83. -/
def execRorAbsX (a : Word) (s : State) : Host.Outcome State Fault Refusal :=
  rotateRight (.mem (.absX a)) s

end Sys2Proof.Machine
end

