-- ==== Sys2Proof/Machine/Stack.lean ====
section
/-! DEFINITION. The stack instructions (R120 to R124). -/

namespace Sys2Proof.Machine

/-- R121, R122: push one byte. -/
def pushByte (v : Byte) (s : State) : Access State := do
  let t ← s.push v
  .ok (t.advance 1)

/-- R123, R124: pull one byte and let `put` use it. -/
def pullByte (put : State → Byte → State) (s : State) : Access State := do
  let (v, t) ← s.pull
  .ok ((put t v).advance 1)

/-- PHA `$48`, Implied: R121, R76. -/
def execPha (s : State) : Host.Outcome State Fault Refusal :=
  finish (pushByte s.A s)

/-- PHP `$08`, Implied: R122, R76. -/
def execPhp (s : State) : Host.Outcome State Fault Refusal :=
  finish (pushByte (s.statusByte true) s)

/-- PLA `$68`, Implied: R123, R76. -/
def execPla (s : State) : Host.Outcome State Fault Refusal :=
  finish (pullByte (fun t v => (t.setA v).setNZ v) s)

/-- PLP `$28`, Implied: R124, R76. -/
def execPlp (s : State) : Host.Outcome State Fault Refusal :=
  finish (pullByte State.setP s)

end Sys2Proof.Machine
end

