-- ==== Sys2Proof/Machine/Transfer.lean ====
section
/-! DEFINITION. Register transfers (R110 to R116). -/

namespace Sys2Proof.Machine

/-- TAX `$AA`, Implied: R111, R76. -/
def execTax (s : State) : Host.Outcome State Fault Refusal :=
  .next (((s.setX s.A).setNZ s.A).advance 1)

/-- TAY `$A8`, Implied: R112, R76. -/
def execTay (s : State) : Host.Outcome State Fault Refusal :=
  .next (((s.setY s.A).setNZ s.A).advance 1)

/-- TSX `$BA`, Implied: R113, R76. -/
def execTsx (s : State) : Host.Outcome State Fault Refusal :=
  .next (((s.setX s.S).setNZ s.S).advance 1)

/-- TXA `$8A`, Implied: R114, R76. -/
def execTxa (s : State) : Host.Outcome State Fault Refusal :=
  .next (((s.setA s.X).setNZ s.X).advance 1)

/-- TXS `$9A`, Implied: R115, R76. -/
def execTxs (s : State) : Host.Outcome State Fault Refusal :=
  .next ((s.setS s.X).advance 1)

/-- TYA `$98`, Implied: R116, R76. -/
def execTya (s : State) : Host.Outcome State Fault Refusal :=
  .next (((s.setA s.Y).setNZ s.Y).advance 1)

end Sys2Proof.Machine
end

