-- ==== Sys2Proof/Machine/Dispatch.lean ====
section
/-! DEFINITION. The meaning of every instruction, one arm per constructor (the `execute` part of R7). -/

namespace Sys2Proof.Machine

/-- Step 6 of R7: execute an instruction, with pc still the address of its opcode byte. -/
def exec (i : Instr) (s : State) : Host.Outcome State Fault Refusal :=
  match i with
  | .ldaImm m => Sys2Proof.Machine.execLdaImm m s
  | .ldaZp z => Sys2Proof.Machine.execLdaZp z s
  | .ldaZpX z => Sys2Proof.Machine.execLdaZpX z s
  | .ldaAbs a => Sys2Proof.Machine.execLdaAbs a s
  | .ldaAbsX a => Sys2Proof.Machine.execLdaAbsX a s
  | .ldaAbsY a => Sys2Proof.Machine.execLdaAbsY a s
  | .ldaIndX z => Sys2Proof.Machine.execLdaIndX z s
  | .ldaIndY z => Sys2Proof.Machine.execLdaIndY z s
  | .ldxImm m => Sys2Proof.Machine.execLdxImm m s
  | .ldxZp z => Sys2Proof.Machine.execLdxZp z s
  | .ldxZpY z => Sys2Proof.Machine.execLdxZpY z s
  | .ldxAbs a => Sys2Proof.Machine.execLdxAbs a s
  | .ldxAbsY a => Sys2Proof.Machine.execLdxAbsY a s
  | .ldyImm m => Sys2Proof.Machine.execLdyImm m s
  | .ldyZp z => Sys2Proof.Machine.execLdyZp z s
  | .ldyZpX z => Sys2Proof.Machine.execLdyZpX z s
  | .ldyAbs a => Sys2Proof.Machine.execLdyAbs a s
  | .ldyAbsX a => Sys2Proof.Machine.execLdyAbsX a s
  | .staZp z => Sys2Proof.Machine.execStaZp z s
  | .staZpX z => Sys2Proof.Machine.execStaZpX z s
  | .staAbs a => Sys2Proof.Machine.execStaAbs a s
  | .staAbsX a => Sys2Proof.Machine.execStaAbsX a s
  | .staAbsY a => Sys2Proof.Machine.execStaAbsY a s
  | .staIndX z => Sys2Proof.Machine.execStaIndX z s
  | .staIndY z => Sys2Proof.Machine.execStaIndY z s
  | .stxZp z => Sys2Proof.Machine.execStxZp z s
  | .stxZpY z => Sys2Proof.Machine.execStxZpY z s
  | .stxAbs a => Sys2Proof.Machine.execStxAbs a s
  | .styZp z => Sys2Proof.Machine.execStyZp z s
  | .styZpX z => Sys2Proof.Machine.execStyZpX z s
  | .styAbs a => Sys2Proof.Machine.execStyAbs a s
  | .tax => Sys2Proof.Machine.execTax s
  | .tay => Sys2Proof.Machine.execTay s
  | .tsx => Sys2Proof.Machine.execTsx s
  | .txa => Sys2Proof.Machine.execTxa s
  | .txs => Sys2Proof.Machine.execTxs s
  | .tya => Sys2Proof.Machine.execTya s
  | .pha => Sys2Proof.Machine.execPha s
  | .php => Sys2Proof.Machine.execPhp s
  | .pla => Sys2Proof.Machine.execPla s
  | .plp => Sys2Proof.Machine.execPlp s
  | .aslAcc => Sys2Proof.Machine.execAslAcc s
  | .aslZp z => Sys2Proof.Machine.execAslZp z s
  | .aslZpX z => Sys2Proof.Machine.execAslZpX z s
  | .aslAbs a => Sys2Proof.Machine.execAslAbs a s
  | .aslAbsX a => Sys2Proof.Machine.execAslAbsX a s
  | .lsrAcc => Sys2Proof.Machine.execLsrAcc s
  | .lsrZp z => Sys2Proof.Machine.execLsrZp z s
  | .lsrZpX z => Sys2Proof.Machine.execLsrZpX z s
  | .lsrAbs a => Sys2Proof.Machine.execLsrAbs a s
  | .lsrAbsX a => Sys2Proof.Machine.execLsrAbsX a s
  | .rolAcc => Sys2Proof.Machine.execRolAcc s
  | .rolZp z => Sys2Proof.Machine.execRolZp z s
  | .rolZpX z => Sys2Proof.Machine.execRolZpX z s
  | .rolAbs a => Sys2Proof.Machine.execRolAbs a s
  | .rolAbsX a => Sys2Proof.Machine.execRolAbsX a s
  | .rorAcc => Sys2Proof.Machine.execRorAcc s
  | .rorZp z => Sys2Proof.Machine.execRorZp z s
  | .rorZpX z => Sys2Proof.Machine.execRorZpX z s
  | .rorAbs a => Sys2Proof.Machine.execRorAbs a s
  | .rorAbsX a => Sys2Proof.Machine.execRorAbsX a s
  | .andImm m => Sys2Proof.Machine.execAndImm m s
  | .andZp z => Sys2Proof.Machine.execAndZp z s
  | .andZpX z => Sys2Proof.Machine.execAndZpX z s
  | .andAbs a => Sys2Proof.Machine.execAndAbs a s
  | .andAbsX a => Sys2Proof.Machine.execAndAbsX a s
  | .andAbsY a => Sys2Proof.Machine.execAndAbsY a s
  | .andIndX z => Sys2Proof.Machine.execAndIndX z s
  | .andIndY z => Sys2Proof.Machine.execAndIndY z s
  | .bitZp z => Sys2Proof.Machine.execBitZp z s
  | .bitAbs a => Sys2Proof.Machine.execBitAbs a s
  | .eorImm m => Sys2Proof.Machine.execEorImm m s
  | .eorZp z => Sys2Proof.Machine.execEorZp z s
  | .eorZpX z => Sys2Proof.Machine.execEorZpX z s
  | .eorAbs a => Sys2Proof.Machine.execEorAbs a s
  | .eorAbsX a => Sys2Proof.Machine.execEorAbsX a s
  | .eorAbsY a => Sys2Proof.Machine.execEorAbsY a s
  | .eorIndX z => Sys2Proof.Machine.execEorIndX z s
  | .eorIndY z => Sys2Proof.Machine.execEorIndY z s
  | .oraImm m => Sys2Proof.Machine.execOraImm m s
  | .oraZp z => Sys2Proof.Machine.execOraZp z s
  | .oraZpX z => Sys2Proof.Machine.execOraZpX z s
  | .oraAbs a => Sys2Proof.Machine.execOraAbs a s
  | .oraAbsX a => Sys2Proof.Machine.execOraAbsX a s
  | .oraAbsY a => Sys2Proof.Machine.execOraAbsY a s
  | .oraIndX z => Sys2Proof.Machine.execOraIndX z s
  | .oraIndY z => Sys2Proof.Machine.execOraIndY z s
  | .adcImm m => Sys2Proof.Machine.execAdcImm m s
  | .adcZp z => Sys2Proof.Machine.execAdcZp z s
  | .adcZpX z => Sys2Proof.Machine.execAdcZpX z s
  | .adcAbs a => Sys2Proof.Machine.execAdcAbs a s
  | .adcAbsX a => Sys2Proof.Machine.execAdcAbsX a s
  | .adcAbsY a => Sys2Proof.Machine.execAdcAbsY a s
  | .adcIndX z => Sys2Proof.Machine.execAdcIndX z s
  | .adcIndY z => Sys2Proof.Machine.execAdcIndY z s
  | .cmpImm m => Sys2Proof.Machine.execCmpImm m s
  | .cmpZp z => Sys2Proof.Machine.execCmpZp z s
  | .cmpZpX z => Sys2Proof.Machine.execCmpZpX z s
  | .cmpAbs a => Sys2Proof.Machine.execCmpAbs a s
  | .cmpAbsX a => Sys2Proof.Machine.execCmpAbsX a s
  | .cmpAbsY a => Sys2Proof.Machine.execCmpAbsY a s
  | .cmpIndX z => Sys2Proof.Machine.execCmpIndX z s
  | .cmpIndY z => Sys2Proof.Machine.execCmpIndY z s
  | .cpxImm m => Sys2Proof.Machine.execCpxImm m s
  | .cpxZp z => Sys2Proof.Machine.execCpxZp z s
  | .cpxAbs a => Sys2Proof.Machine.execCpxAbs a s
  | .cpyImm m => Sys2Proof.Machine.execCpyImm m s
  | .cpyZp z => Sys2Proof.Machine.execCpyZp z s
  | .cpyAbs a => Sys2Proof.Machine.execCpyAbs a s
  | .sbcImm m => Sys2Proof.Machine.execSbcImm m s
  | .sbcZp z => Sys2Proof.Machine.execSbcZp z s
  | .sbcZpX z => Sys2Proof.Machine.execSbcZpX z s
  | .sbcAbs a => Sys2Proof.Machine.execSbcAbs a s
  | .sbcAbsX a => Sys2Proof.Machine.execSbcAbsX a s
  | .sbcAbsY a => Sys2Proof.Machine.execSbcAbsY a s
  | .sbcIndX z => Sys2Proof.Machine.execSbcIndX z s
  | .sbcIndY z => Sys2Proof.Machine.execSbcIndY z s
  | .decZp z => Sys2Proof.Machine.execDecZp z s
  | .decZpX z => Sys2Proof.Machine.execDecZpX z s
  | .decAbs a => Sys2Proof.Machine.execDecAbs a s
  | .decAbsX a => Sys2Proof.Machine.execDecAbsX a s
  | .dex => Sys2Proof.Machine.execDex s
  | .dey => Sys2Proof.Machine.execDey s
  | .incZp z => Sys2Proof.Machine.execIncZp z s
  | .incZpX z => Sys2Proof.Machine.execIncZpX z s
  | .incAbs a => Sys2Proof.Machine.execIncAbs a s
  | .incAbsX a => Sys2Proof.Machine.execIncAbsX a s
  | .inx => Sys2Proof.Machine.execInx s
  | .iny => Sys2Proof.Machine.execIny s
  | .brk => Sys2Proof.Machine.execBrk s
  | .jmpAbs a => Sys2Proof.Machine.execJmpAbs a s
  | .jmpInd a => Sys2Proof.Machine.execJmpInd a s
  | .jsr a => Sys2Proof.Machine.execJsr a s
  | .rti => Sys2Proof.Machine.execRti s
  | .rts => Sys2Proof.Machine.execRts s
  | .bcc off => Sys2Proof.Machine.execBcc off s
  | .bcs off => Sys2Proof.Machine.execBcs off s
  | .beq off => Sys2Proof.Machine.execBeq off s
  | .bmi off => Sys2Proof.Machine.execBmi off s
  | .bne off => Sys2Proof.Machine.execBne off s
  | .bpl off => Sys2Proof.Machine.execBpl off s
  | .bvc off => Sys2Proof.Machine.execBvc off s
  | .bvs off => Sys2Proof.Machine.execBvs off s
  | .clc => Sys2Proof.Machine.execClc s
  | .cld => Sys2Proof.Machine.execCld s
  | .cli => Sys2Proof.Machine.execCli s
  | .clv => Sys2Proof.Machine.execClv s
  | .sec => Sys2Proof.Machine.execSec s
  | .sed => Sys2Proof.Machine.execSed s
  | .sei => Sys2Proof.Machine.execSei s
  | .nop => Sys2Proof.Machine.execNop s

end Sys2Proof.Machine
end

