-- ==== Sys2Proof/Machine/Events.lean ====
section
/-! DEFINITION. The instruction boundary, step 0 of R7: the environment's inputs, which event is taken
there, and taking RESET, NMI and IRQ (R210 to R222, R226, R250). -/

namespace Sys2Proof.Machine

/-- The inputs at this boundary; past the end of the list all are quiet (R35). -/
def State.nextInput (s : State) : BoundaryInput :=
  match s.inputs with
  | [] => {}
  | b :: _ => b

/-- The inputs of this boundary take effect: the set-overflow input sets V where it is used (R33), and
an NMI edge is latched (R31, R215). -/
def State.sample (s : State) : State :=
  { s with
    V := s.V || (s.cfg.soPinUsed && s.nextInput.setOverflow)
    nmiPending := s.nmiPending || s.nextInput.nmiEdge
    inputs := s.inputs.tail }

/-- What one step does (R217): one event entry, or one whole instruction. -/
inductive Action where
  | reset
  | nmi
  /-- Take the IRQ with this return address. -/
  | irq (ret : Word)
  | run
  deriving DecidableEq, Repr

/-- R222: the mask that decides at this boundary, and the state with the draw used: I, or right after
CLI, SEI or PLP a draw from the new and the old value of I. -/
def State.irqMask (s : State) : Bool × State :=
  match s.iPrev with
  | none => (s.I, s)
  | some old =>
    (if Config.drawBit s.draws then s.I else old, { s with draws := s.draws + 1 })

/-- The byte at pc is `$00` (R226); where it cannot be read there is no collision. -/
def State.brkAtPc (s : State) : Bool :=
  match s.memRead s.pc with
  | .ok opc => opc == 0
  | .error _ => false

/-- R226: the outcome of a collision of BRK and IRQ, and the state with the draw used. -/
def State.collision (s : State) : Collision × State :=
  match s.cfg.brkIrqCollision with
  | some c => (c, s)
  | none => (Config.drawCollision s.draws, { s with draws := s.draws + 1 })

/-- R214, R226: an IRQ is due with pc at this instruction. DESIGN CHOICE, safe (log entry 17): right after SEI
or PLP, with I = 1 and `i_prev` = 0, an IRQ that the drawn mask of R222 makes due meets a BRK as any due IRQ
does, and the collision is drawn. R226 draws whenever the IRQ is due, but ends with "or I = 1, the case cannot
arise and BRK is always seen". -/
def State.takeOrDefer (s : State) : Action × State :=
  if s.brkAtPc then
    match s.collision.1 with
    | .irqFirst => (.irq s.pc, s.collision.2)
    | .brkIgnored => (.irq (s.pc + 2), s.collision.2)
    | .brkFirst => (.run, s.collision.2)
  else (.irq s.pc, s)

/-- R214, R220: the choice at a boundary whose inputs have taken effect, with the levels `b`: RESET, then
NMI, then IRQ, else the next instruction. -/
def State.choose (s : State) (b : BoundaryInput) : Action × State :=
  if b.resetLine then (.reset, s)
  else if s.nmiPending then (.nmi, s)
  else if b.irqLine then
    if s.irqMask.1 then (.run, s.irqMask.2) else s.irqMask.2.takeOrDefer
  else (.run, s)

/-- Step 0 of R7: what this step does, and the state it does it in. -/
def State.boundary (s : State) : Action × State := s.sample.choose s.nextInput

/-- R216, R250: the RESET sequence. Nothing is pushed or written; the registers and flags the spec leaves
unspecified take free values (nine draws). -/
def State.takeReset (s : State) : Access State := do
  let start ← s.readVector resetVector
  .ok { s with
    A := Config.drawByte s.draws
    X := Config.drawByte (s.draws + 1)
    Y := Config.drawByte (s.draws + 2)
    S := Config.drawByte (s.draws + 3)
    N := Config.drawBit (s.draws + 4)
    V := Config.drawBit (s.draws + 5)
    Z := Config.drawBit (s.draws + 6)
    C := Config.drawBit (s.draws + 7)
    D := Config.drawBit (s.draws + 8)
    I := true
    nmiPending := false
    iPrev := none
    pc := start
    draws := s.draws + 9 }

/-- R215, R218: taking the NMI. -/
def State.takeNmi (s : State) : Access State :=
  { s with nmiPending := false }.enter nmiVector false s.pc

/-- R214, R218: taking the IRQ. -/
def State.takeIrq (s : State) (ret : Word) : Access State := s.enter irqVector false ret

/-- R222: CLI, SEI and PLP. -/
def Instr.delaysMask (i : Instr) : Bool :=
  i.mnemonic == .cli || i.mnemonic == .sei || i.mnemonic == .plp

/-- Step 7 of R7 (R222): after instruction `i`, begun in state `before`, `i_prev` holds the old I if `i`
was CLI, SEI or PLP and `IFlagDelay` is true, and is `none` otherwise. -/
def State.retire (before : State) (i : Instr) (after : State) : State :=
  { after with
    iPrev := if before.cfg.iFlagDelay && Instr.delaysMask i then some before.I else none }

end Sys2Proof.Machine
end

