-- ==== Sys2Proof/WellFormed.lean ====
section
/-! DEFINITION. Which instructions a part has. The operand types of `Instr` admit exactly the operand
bytes of each format, so the one check left is R93: with `HasROR` false the five ROR opcodes are
undefined. -/

namespace Sys2Proof

/-- `i` is an instruction of a part whose parameter P1 is `hasROR` (R3 P1, R93). -/
def Instr.wellFormed (hasROR : Bool) (i : Instr) : Bool :=
  hasROR || i.mnemonic != .ror

end Sys2Proof
end

