-- ==== Sys2Proof/Decode.lean ====
section
/-! DEFINITION. From bytes to instructions (R70 to R73, R90, R92, R93) and back. The decoder is one
table keyed by the opcode byte, all eight bits of it (R71); the encoder is the same table read from
the instruction. Nothing is decoded from the regularities of R91. -/

namespace Sys2Proof

/-- Why bytes do not decode. -/
inductive DecodeError where
  /-- R92, R93: the byte is not one of the opcodes the part has. -/
  | undefinedOpcode (opc : Byte)
  /-- The list ends before the instruction does. -/
  | truncated
  deriving DecidableEq, Repr

/-- What the opcode byte alone says (R70): the instruction itself (F1), or the instruction that one
operand byte (F2) or one operand word (F3) completes. -/
inductive Form where
  | implied (i : Instr)
  | byte (f : Byte → Instr)
  | word (f : Word → Instr)

/-- R90, R96: the 151 defined opcodes in ascending order; every other byte is undefined (R92), and so
are the five ROR opcodes on a part without ROR (R93). -/
def decodeOpcode (hasROR : Bool) (opc : Byte) : Option Form :=
  match opc.toNat with
  | 0x00 => some (.implied .brk)
  | 0x01 => some (.byte .oraIndX)
  | 0x05 => some (.byte .oraZp)
  | 0x06 => some (.byte .aslZp)
  | 0x08 => some (.implied .php)
  | 0x09 => some (.byte .oraImm)
  | 0x0A => some (.implied .aslAcc)
  | 0x0D => some (.word .oraAbs)
  | 0x0E => some (.word .aslAbs)
  | 0x10 => some (.byte .bpl)
  | 0x11 => some (.byte .oraIndY)
  | 0x15 => some (.byte .oraZpX)
  | 0x16 => some (.byte .aslZpX)
  | 0x18 => some (.implied .clc)
  | 0x19 => some (.word .oraAbsY)
  | 0x1D => some (.word .oraAbsX)
  | 0x1E => some (.word .aslAbsX)
  | 0x20 => some (.word .jsr)
  | 0x21 => some (.byte .andIndX)
  | 0x24 => some (.byte .bitZp)
  | 0x25 => some (.byte .andZp)
  | 0x26 => some (.byte .rolZp)
  | 0x28 => some (.implied .plp)
  | 0x29 => some (.byte .andImm)
  | 0x2A => some (.implied .rolAcc)
  | 0x2C => some (.word .bitAbs)
  | 0x2D => some (.word .andAbs)
  | 0x2E => some (.word .rolAbs)
  | 0x30 => some (.byte .bmi)
  | 0x31 => some (.byte .andIndY)
  | 0x35 => some (.byte .andZpX)
  | 0x36 => some (.byte .rolZpX)
  | 0x38 => some (.implied .sec)
  | 0x39 => some (.word .andAbsY)
  | 0x3D => some (.word .andAbsX)
  | 0x3E => some (.word .rolAbsX)
  | 0x40 => some (.implied .rti)
  | 0x41 => some (.byte .eorIndX)
  | 0x45 => some (.byte .eorZp)
  | 0x46 => some (.byte .lsrZp)
  | 0x48 => some (.implied .pha)
  | 0x49 => some (.byte .eorImm)
  | 0x4A => some (.implied .lsrAcc)
  | 0x4C => some (.word .jmpAbs)
  | 0x4D => some (.word .eorAbs)
  | 0x4E => some (.word .lsrAbs)
  | 0x50 => some (.byte .bvc)
  | 0x51 => some (.byte .eorIndY)
  | 0x55 => some (.byte .eorZpX)
  | 0x56 => some (.byte .lsrZpX)
  | 0x58 => some (.implied .cli)
  | 0x59 => some (.word .eorAbsY)
  | 0x5D => some (.word .eorAbsX)
  | 0x5E => some (.word .lsrAbsX)
  | 0x60 => some (.implied .rts)
  | 0x61 => some (.byte .adcIndX)
  | 0x65 => some (.byte .adcZp)
  | 0x66 => if hasROR then some (.byte .rorZp) else none
  | 0x68 => some (.implied .pla)
  | 0x69 => some (.byte .adcImm)
  | 0x6A => if hasROR then some (.implied .rorAcc) else none
  | 0x6C => some (.word .jmpInd)
  | 0x6D => some (.word .adcAbs)
  | 0x6E => if hasROR then some (.word .rorAbs) else none
  | 0x70 => some (.byte .bvs)
  | 0x71 => some (.byte .adcIndY)
  | 0x75 => some (.byte .adcZpX)
  | 0x76 => if hasROR then some (.byte .rorZpX) else none
  | 0x78 => some (.implied .sei)
  | 0x79 => some (.word .adcAbsY)
  | 0x7D => some (.word .adcAbsX)
  | 0x7E => if hasROR then some (.word .rorAbsX) else none
  | 0x81 => some (.byte .staIndX)
  | 0x84 => some (.byte .styZp)
  | 0x85 => some (.byte .staZp)
  | 0x86 => some (.byte .stxZp)
  | 0x88 => some (.implied .dey)
  | 0x8A => some (.implied .txa)
  | 0x8C => some (.word .styAbs)
  | 0x8D => some (.word .staAbs)
  | 0x8E => some (.word .stxAbs)
  | 0x90 => some (.byte .bcc)
  | 0x91 => some (.byte .staIndY)
  | 0x94 => some (.byte .styZpX)
  | 0x95 => some (.byte .staZpX)
  | 0x96 => some (.byte .stxZpY)
  | 0x98 => some (.implied .tya)
  | 0x99 => some (.word .staAbsY)
  | 0x9A => some (.implied .txs)
  | 0x9D => some (.word .staAbsX)
  | 0xA0 => some (.byte .ldyImm)
  | 0xA1 => some (.byte .ldaIndX)
  | 0xA2 => some (.byte .ldxImm)
  | 0xA4 => some (.byte .ldyZp)
  | 0xA5 => some (.byte .ldaZp)
  | 0xA6 => some (.byte .ldxZp)
  | 0xA8 => some (.implied .tay)
  | 0xA9 => some (.byte .ldaImm)
  | 0xAA => some (.implied .tax)
  | 0xAC => some (.word .ldyAbs)
  | 0xAD => some (.word .ldaAbs)
  | 0xAE => some (.word .ldxAbs)
  | 0xB0 => some (.byte .bcs)
  | 0xB1 => some (.byte .ldaIndY)
  | 0xB4 => some (.byte .ldyZpX)
  | 0xB5 => some (.byte .ldaZpX)
  | 0xB6 => some (.byte .ldxZpY)
  | 0xB8 => some (.implied .clv)
  | 0xB9 => some (.word .ldaAbsY)
  | 0xBA => some (.implied .tsx)
  | 0xBC => some (.word .ldyAbsX)
  | 0xBD => some (.word .ldaAbsX)
  | 0xBE => some (.word .ldxAbsY)
  | 0xC0 => some (.byte .cpyImm)
  | 0xC1 => some (.byte .cmpIndX)
  | 0xC4 => some (.byte .cpyZp)
  | 0xC5 => some (.byte .cmpZp)
  | 0xC6 => some (.byte .decZp)
  | 0xC8 => some (.implied .iny)
  | 0xC9 => some (.byte .cmpImm)
  | 0xCA => some (.implied .dex)
  | 0xCC => some (.word .cpyAbs)
  | 0xCD => some (.word .cmpAbs)
  | 0xCE => some (.word .decAbs)
  | 0xD0 => some (.byte .bne)
  | 0xD1 => some (.byte .cmpIndY)
  | 0xD5 => some (.byte .cmpZpX)
  | 0xD6 => some (.byte .decZpX)
  | 0xD8 => some (.implied .cld)
  | 0xD9 => some (.word .cmpAbsY)
  | 0xDD => some (.word .cmpAbsX)
  | 0xDE => some (.word .decAbsX)
  | 0xE0 => some (.byte .cpxImm)
  | 0xE1 => some (.byte .sbcIndX)
  | 0xE4 => some (.byte .cpxZp)
  | 0xE5 => some (.byte .sbcZp)
  | 0xE6 => some (.byte .incZp)
  | 0xE8 => some (.implied .inx)
  | 0xE9 => some (.byte .sbcImm)
  | 0xEA => some (.implied .nop)
  | 0xEC => some (.word .cpxAbs)
  | 0xED => some (.word .sbcAbs)
  | 0xEE => some (.word .incAbs)
  | 0xF0 => some (.byte .beq)
  | 0xF1 => some (.byte .sbcIndY)
  | 0xF5 => some (.byte .sbcZpX)
  | 0xF6 => some (.byte .incZpX)
  | 0xF8 => some (.implied .sed)
  | 0xF9 => some (.word .sbcAbsY)
  | 0xFD => some (.word .sbcAbsX)
  | 0xFE => some (.word .incAbsX)
  | _ => none

/-- R70, R73: the operand bytes follow the opcode, the low byte of a word first (R44). -/
def Form.complete : Form → List Byte → Except DecodeError (Instr × List Byte)
  | .implied i, rest => .ok (i, rest)
  | .byte f, b1 :: rest => .ok (f b1, rest)
  | .byte _, [] => .error .truncated
  | .word f, b1 :: b2 :: rest => .ok (f (mkWord b2 b1), rest)
  | .word _, _ => .error .truncated

/-- Decoding (R70): the first byte selects the instruction and its length; the answer is the
instruction and the bytes after it. -/
def decode (hasROR : Bool) : List Byte → Except DecodeError (Instr × List Byte)
  | [] => .error .truncated
  | opc :: rest =>
    match decodeOpcode hasROR opc with
    | none => .error (.undefinedOpcode opc)
    | some form => form.complete rest

/-- The operand of an instruction as its encoding holds it (R73). -/
inductive OperandField where
  | none
  | byte (b : Byte)
  | word (a : Word)
  deriving DecidableEq, Repr

/-- R44: the bytes of an operand, low byte first. -/
def OperandField.bytes : OperandField → List Byte
  | .none => []
  | .byte b => [b]
  | .word a => [loByte a, hiByte a]

/-- The opcode byte of each instruction (R96, first column). -/
def Instr.opcode : Instr → Byte
  | .ldaImm _ => 0xA9#8
  | .ldaZp _ => 0xA5#8
  | .ldaZpX _ => 0xB5#8
  | .ldaAbs _ => 0xAD#8
  | .ldaAbsX _ => 0xBD#8
  | .ldaAbsY _ => 0xB9#8
  | .ldaIndX _ => 0xA1#8
  | .ldaIndY _ => 0xB1#8
  | .ldxImm _ => 0xA2#8
  | .ldxZp _ => 0xA6#8
  | .ldxZpY _ => 0xB6#8
  | .ldxAbs _ => 0xAE#8
  | .ldxAbsY _ => 0xBE#8
  | .ldyImm _ => 0xA0#8
  | .ldyZp _ => 0xA4#8
  | .ldyZpX _ => 0xB4#8
  | .ldyAbs _ => 0xAC#8
  | .ldyAbsX _ => 0xBC#8
  | .staZp _ => 0x85#8
  | .staZpX _ => 0x95#8
  | .staAbs _ => 0x8D#8
  | .staAbsX _ => 0x9D#8
  | .staAbsY _ => 0x99#8
  | .staIndX _ => 0x81#8
  | .staIndY _ => 0x91#8
  | .stxZp _ => 0x86#8
  | .stxZpY _ => 0x96#8
  | .stxAbs _ => 0x8E#8
  | .styZp _ => 0x84#8
  | .styZpX _ => 0x94#8
  | .styAbs _ => 0x8C#8
  | .tax => 0xAA#8
  | .tay => 0xA8#8
  | .tsx => 0xBA#8
  | .txa => 0x8A#8
  | .txs => 0x9A#8
  | .tya => 0x98#8
  | .pha => 0x48#8
  | .php => 0x08#8
  | .pla => 0x68#8
  | .plp => 0x28#8
  | .aslAcc => 0x0A#8
  | .aslZp _ => 0x06#8
  | .aslZpX _ => 0x16#8
  | .aslAbs _ => 0x0E#8
  | .aslAbsX _ => 0x1E#8
  | .lsrAcc => 0x4A#8
  | .lsrZp _ => 0x46#8
  | .lsrZpX _ => 0x56#8
  | .lsrAbs _ => 0x4E#8
  | .lsrAbsX _ => 0x5E#8
  | .rolAcc => 0x2A#8
  | .rolZp _ => 0x26#8
  | .rolZpX _ => 0x36#8
  | .rolAbs _ => 0x2E#8
  | .rolAbsX _ => 0x3E#8
  | .rorAcc => 0x6A#8
  | .rorZp _ => 0x66#8
  | .rorZpX _ => 0x76#8
  | .rorAbs _ => 0x6E#8
  | .rorAbsX _ => 0x7E#8
  | .andImm _ => 0x29#8
  | .andZp _ => 0x25#8
  | .andZpX _ => 0x35#8
  | .andAbs _ => 0x2D#8
  | .andAbsX _ => 0x3D#8
  | .andAbsY _ => 0x39#8
  | .andIndX _ => 0x21#8
  | .andIndY _ => 0x31#8
  | .bitZp _ => 0x24#8
  | .bitAbs _ => 0x2C#8
  | .eorImm _ => 0x49#8
  | .eorZp _ => 0x45#8
  | .eorZpX _ => 0x55#8
  | .eorAbs _ => 0x4D#8
  | .eorAbsX _ => 0x5D#8
  | .eorAbsY _ => 0x59#8
  | .eorIndX _ => 0x41#8
  | .eorIndY _ => 0x51#8
  | .oraImm _ => 0x09#8
  | .oraZp _ => 0x05#8
  | .oraZpX _ => 0x15#8
  | .oraAbs _ => 0x0D#8
  | .oraAbsX _ => 0x1D#8
  | .oraAbsY _ => 0x19#8
  | .oraIndX _ => 0x01#8
  | .oraIndY _ => 0x11#8
  | .adcImm _ => 0x69#8
  | .adcZp _ => 0x65#8
  | .adcZpX _ => 0x75#8
  | .adcAbs _ => 0x6D#8
  | .adcAbsX _ => 0x7D#8
  | .adcAbsY _ => 0x79#8
  | .adcIndX _ => 0x61#8
  | .adcIndY _ => 0x71#8
  | .cmpImm _ => 0xC9#8
  | .cmpZp _ => 0xC5#8
  | .cmpZpX _ => 0xD5#8
  | .cmpAbs _ => 0xCD#8
  | .cmpAbsX _ => 0xDD#8
  | .cmpAbsY _ => 0xD9#8
  | .cmpIndX _ => 0xC1#8
  | .cmpIndY _ => 0xD1#8
  | .cpxImm _ => 0xE0#8
  | .cpxZp _ => 0xE4#8
  | .cpxAbs _ => 0xEC#8
  | .cpyImm _ => 0xC0#8
  | .cpyZp _ => 0xC4#8
  | .cpyAbs _ => 0xCC#8
  | .sbcImm _ => 0xE9#8
  | .sbcZp _ => 0xE5#8
  | .sbcZpX _ => 0xF5#8
  | .sbcAbs _ => 0xED#8
  | .sbcAbsX _ => 0xFD#8
  | .sbcAbsY _ => 0xF9#8
  | .sbcIndX _ => 0xE1#8
  | .sbcIndY _ => 0xF1#8
  | .decZp _ => 0xC6#8
  | .decZpX _ => 0xD6#8
  | .decAbs _ => 0xCE#8
  | .decAbsX _ => 0xDE#8
  | .dex => 0xCA#8
  | .dey => 0x88#8
  | .incZp _ => 0xE6#8
  | .incZpX _ => 0xF6#8
  | .incAbs _ => 0xEE#8
  | .incAbsX _ => 0xFE#8
  | .inx => 0xE8#8
  | .iny => 0xC8#8
  | .brk => 0x00#8
  | .jmpAbs _ => 0x4C#8
  | .jmpInd _ => 0x6C#8
  | .jsr _ => 0x20#8
  | .rti => 0x40#8
  | .rts => 0x60#8
  | .bcc _ => 0x90#8
  | .bcs _ => 0xB0#8
  | .beq _ => 0xF0#8
  | .bmi _ => 0x30#8
  | .bne _ => 0xD0#8
  | .bpl _ => 0x10#8
  | .bvc _ => 0x50#8
  | .bvs _ => 0x70#8
  | .clc => 0x18#8
  | .cld => 0xD8#8
  | .cli => 0x58#8
  | .clv => 0xB8#8
  | .sec => 0x38#8
  | .sed => 0xF8#8
  | .sei => 0x78#8
  | .nop => 0xEA#8

/-- The operand field of each instruction (R70, R73). -/
def Instr.operand : Instr → OperandField
  | .ldaImm b => .byte b
  | .ldaZp b => .byte b
  | .ldaZpX b => .byte b
  | .ldaAbs a => .word a
  | .ldaAbsX a => .word a
  | .ldaAbsY a => .word a
  | .ldaIndX b => .byte b
  | .ldaIndY b => .byte b
  | .ldxImm b => .byte b
  | .ldxZp b => .byte b
  | .ldxZpY b => .byte b
  | .ldxAbs a => .word a
  | .ldxAbsY a => .word a
  | .ldyImm b => .byte b
  | .ldyZp b => .byte b
  | .ldyZpX b => .byte b
  | .ldyAbs a => .word a
  | .ldyAbsX a => .word a
  | .staZp b => .byte b
  | .staZpX b => .byte b
  | .staAbs a => .word a
  | .staAbsX a => .word a
  | .staAbsY a => .word a
  | .staIndX b => .byte b
  | .staIndY b => .byte b
  | .stxZp b => .byte b
  | .stxZpY b => .byte b
  | .stxAbs a => .word a
  | .styZp b => .byte b
  | .styZpX b => .byte b
  | .styAbs a => .word a
  | .tax => .none
  | .tay => .none
  | .tsx => .none
  | .txa => .none
  | .txs => .none
  | .tya => .none
  | .pha => .none
  | .php => .none
  | .pla => .none
  | .plp => .none
  | .aslAcc => .none
  | .aslZp b => .byte b
  | .aslZpX b => .byte b
  | .aslAbs a => .word a
  | .aslAbsX a => .word a
  | .lsrAcc => .none
  | .lsrZp b => .byte b
  | .lsrZpX b => .byte b
  | .lsrAbs a => .word a
  | .lsrAbsX a => .word a
  | .rolAcc => .none
  | .rolZp b => .byte b
  | .rolZpX b => .byte b
  | .rolAbs a => .word a
  | .rolAbsX a => .word a
  | .rorAcc => .none
  | .rorZp b => .byte b
  | .rorZpX b => .byte b
  | .rorAbs a => .word a
  | .rorAbsX a => .word a
  | .andImm b => .byte b
  | .andZp b => .byte b
  | .andZpX b => .byte b
  | .andAbs a => .word a
  | .andAbsX a => .word a
  | .andAbsY a => .word a
  | .andIndX b => .byte b
  | .andIndY b => .byte b
  | .bitZp b => .byte b
  | .bitAbs a => .word a
  | .eorImm b => .byte b
  | .eorZp b => .byte b
  | .eorZpX b => .byte b
  | .eorAbs a => .word a
  | .eorAbsX a => .word a
  | .eorAbsY a => .word a
  | .eorIndX b => .byte b
  | .eorIndY b => .byte b
  | .oraImm b => .byte b
  | .oraZp b => .byte b
  | .oraZpX b => .byte b
  | .oraAbs a => .word a
  | .oraAbsX a => .word a
  | .oraAbsY a => .word a
  | .oraIndX b => .byte b
  | .oraIndY b => .byte b
  | .adcImm b => .byte b
  | .adcZp b => .byte b
  | .adcZpX b => .byte b
  | .adcAbs a => .word a
  | .adcAbsX a => .word a
  | .adcAbsY a => .word a
  | .adcIndX b => .byte b
  | .adcIndY b => .byte b
  | .cmpImm b => .byte b
  | .cmpZp b => .byte b
  | .cmpZpX b => .byte b
  | .cmpAbs a => .word a
  | .cmpAbsX a => .word a
  | .cmpAbsY a => .word a
  | .cmpIndX b => .byte b
  | .cmpIndY b => .byte b
  | .cpxImm b => .byte b
  | .cpxZp b => .byte b
  | .cpxAbs a => .word a
  | .cpyImm b => .byte b
  | .cpyZp b => .byte b
  | .cpyAbs a => .word a
  | .sbcImm b => .byte b
  | .sbcZp b => .byte b
  | .sbcZpX b => .byte b
  | .sbcAbs a => .word a
  | .sbcAbsX a => .word a
  | .sbcAbsY a => .word a
  | .sbcIndX b => .byte b
  | .sbcIndY b => .byte b
  | .decZp b => .byte b
  | .decZpX b => .byte b
  | .decAbs a => .word a
  | .decAbsX a => .word a
  | .dex => .none
  | .dey => .none
  | .incZp b => .byte b
  | .incZpX b => .byte b
  | .incAbs a => .word a
  | .incAbsX a => .word a
  | .inx => .none
  | .iny => .none
  | .brk => .none
  | .jmpAbs a => .word a
  | .jmpInd a => .word a
  | .jsr a => .word a
  | .rti => .none
  | .rts => .none
  | .bcc b => .byte b
  | .bcs b => .byte b
  | .beq b => .byte b
  | .bmi b => .byte b
  | .bne b => .byte b
  | .bpl b => .byte b
  | .bvc b => .byte b
  | .bvs b => .byte b
  | .clc => .none
  | .cld => .none
  | .cli => .none
  | .clv => .none
  | .sec => .none
  | .sed => .none
  | .sei => .none
  | .nop => .none

/-- Encoding: the opcode byte, then the operand bytes. -/
def encode (i : Instr) : List Byte := i.opcode :: i.operand.bytes

/-- The three bytes a table word stands for: the `nbits` low bits of `w`, every bit above them 0,
least significant byte first. -/
def tableBytes (nbits w : Nat) : List Byte :=
  [byteOf (w % 2 ^ nbits) 0, byteOf (w % 2 ^ nbits) 1, byteOf (w % 2 ^ nbits) 2]

/-- The instruction the decoder of this hardware reads from a word of the opcode table. -/
def decodeTableWord (nbits w : Nat) : Option Instr :=
  match decode Config.standard.hasROR (tableBytes nbits w) with
  | .ok (i, _) => some i
  | .error _ => none

end Sys2Proof
end

