-- ==== Sys2Proof/Machine/Fetch.lean ====
section
/-! DEFINITION. Steps 1 to 3 of R7: the opcode at pc, its row, and as many operand bytes as the row
has; and placing an instruction's bytes where the next fetch reads them. -/

namespace Sys2Proof.Machine

/-- Step 3 of R7: read the operand bytes a form needs, in ascending address order, modulo 65536 (R15). -/
def State.fetchOperand (s : State) : Form → Access Instr
  | .implied i => .ok i
  | .byte f => do
    let b1 ← s.memRead (s.pc + 1)
    .ok (f b1)
  | .word f => do
    let b1 ← s.memRead (s.pc + 1)
    let b2 ← s.memRead (s.pc + 2)
    .ok (f (mkWord b2 b1))

/-- Steps 1 to 3 of R7; an opcode the part does not have is refused by name (R92). -/
def State.fetch (s : State) : Access Instr := do
  let opc ← s.memRead s.pc
  match decodeOpcode s.cfg.hasROR opc with
  | none => .error (.undefinedOpcode opc s.pc)
  | some form => s.fetchOperand form

/-- Put three bytes at pc and the two addresses after it, from outside the machine. -/
def Memory.place (m : Memory) (pc : Word) (b0 b1 b2 : Byte) : Memory :=
  Memory.write (Memory.write (Memory.write m pc.toNat b0) (pc + 1).toNat b1) (pc + 2).toNat b2

/-- The list of inputs with those of the next boundary made quiet. -/
def quietNext : List BoundaryInput → List BoundaryInput
  | [] => []
  | _ :: rest => {} :: rest

/-- `s` with the bytes of a table word at pc and nothing due at the next boundary, so that the next
step fetches and runs that instruction. -/
def State.placeTableWord (s : State) (nbits w : Nat) : State :=
  { s with
    mem := Memory.place s.mem s.pc (byteOf (w % 2 ^ nbits) 0) (byteOf (w % 2 ^ nbits) 1)
      (byteOf (w % 2 ^ nbits) 2)
    nmiPending := false
    inputs := quietNext s.inputs }

end Sys2Proof.Machine
end

