-- ==== Sys2Proof/Machine/Step.lean ====
section
/-! DEFINITION. One step of the machine (R7, R217): one event entry or one whole instruction. -/

namespace Sys2Proof.Machine

/-- Steps 6 and 7 of R7: execute, then update `i_prev`. -/
def State.execute (s : State) (i : Instr) : Host.Outcome State Fault Refusal :=
  match exec i s with
  | .next t => .next (s.retire i t)
  | .fault f => .fault f
  | .refused r => .refused r

/-- Steps 1 to 7 of R7. -/
def State.runInstruction (s : State) : Host.Outcome State Fault Refusal :=
  match s.fetch with
  | .ok i => s.execute i
  | .error e => .refused e

/-- R7, R217. -/
def step (s : State) : Host.Outcome State Fault Refusal :=
  match s.boundary with
  | (.reset, b) => finish b.takeReset
  | (.nmi, b) => finish b.takeNmi
  | (.irq ret, b) => finish (b.takeIrq ret)
  | (.run, b) => b.runInstruction

/-- `s` with an instruction of the opcode table stored where `step` fetches its next one, at pc, and no
event due before it (log entry 6). -/
def State.withFetchWord (s : State) (nbits w : Nat) : State := s.placeTableWord nbits w

end Sys2Proof.Machine
end

