-- ==== Sys2Proof/Machine/Assembler.lean ====
section
/-! DEFINITION. The assembly forms of R94 and R95: the text of an instruction, and the offset byte an
assembler computes for a branch. -/

namespace Sys2Proof.Machine

/-- The three-letter mnemonic in capitals (R94). -/
def mnemonicText : Mnemonic → String
  | .lda => "LDA" | .ldx => "LDX" | .ldy => "LDY" | .sta => "STA" | .stx => "STX" | .sty => "STY"
  | .tax => "TAX" | .tay => "TAY" | .tsx => "TSX" | .txa => "TXA" | .txs => "TXS" | .tya => "TYA"
  | .pha => "PHA" | .php => "PHP" | .pla => "PLA" | .plp => "PLP"
  | .asl => "ASL" | .lsr => "LSR" | .rol => "ROL" | .ror => "ROR"
  | .and => "AND" | .bit => "BIT" | .eor => "EOR" | .ora => "ORA"
  | .adc => "ADC" | .cmp => "CMP" | .cpx => "CPX" | .cpy => "CPY" | .sbc => "SBC"
  | .dec => "DEC" | .dex => "DEX" | .dey => "DEY" | .inc => "INC" | .inx => "INX" | .iny => "INY"
  | .brk => "BRK" | .jmp => "JMP" | .jsr => "JSR" | .rti => "RTI" | .rts => "RTS"
  | .bcc => "BCC" | .bcs => "BCS" | .beq => "BEQ" | .bmi => "BMI"
  | .bne => "BNE" | .bpl => "BPL" | .bvc => "BVC" | .bvs => "BVS"
  | .clc => "CLC" | .cld => "CLD" | .cli => "CLI" | .clv => "CLV"
  | .sec => "SEC" | .sed => "SED" | .sei => "SEI" | .nop => "NOP"

/-- One hexadecimal digit, in capitals. -/
def hexDigit (n : Nat) : Char := "0123456789ABCDEF".toList.getD n '0'

/-- `$nn`: two hexadecimal digits (R94). -/
def hexByte (b : Byte) : String :=
  "$" ++ String.ofList [hexDigit (b.toNat / 16), hexDigit (b.toNat % 16)]

/-- `$nnnn`: four hexadecimal digits (R94). -/
def hexWord (w : Word) : String :=
  "$" ++ String.ofList [hexDigit (w.toNat / 4096), hexDigit (w.toNat / 256 % 16),
    hexDigit (w.toNat / 16 % 16), hexDigit (w.toNat % 16)]

/-- The operand of an instruction at address `pc` in the form of its mode (R94); a branch shows its target. -/
def operandText (pc : Word) (mode : Mode) (field : OperandField) : String :=
  match mode, field with
  | .acc, _ => " A"
  | .imm, .byte b => " #" ++ hexByte b
  | .zp, .byte b => " " ++ hexByte b
  | .zpX, .byte b => " " ++ hexByte b ++ ",X"
  | .zpY, .byte b => " " ++ hexByte b ++ ",Y"
  | .abs, .word a => " " ++ hexWord a
  | .absX, .word a => " " ++ hexWord a ++ ",X"
  | .absY, .word a => " " ++ hexWord a ++ ",Y"
  | .ind, .word a => " (" ++ hexWord a ++ ")"
  | .indX, .byte b => " (" ++ hexByte b ++ ",X)"
  | .indY, .byte b => " (" ++ hexByte b ++ "),Y"
  | .rel, .byte off => " " ++ hexWord (branchTarget pc off)
  | _, _ => ""

/-- The assembly line of an instruction at address `pc` (R94). -/
def assemblyText (pc : Word) (i : Instr) : String :=
  mnemonicText i.mnemonic ++ operandText pc i.mode i.operand

/-- R94: the offset byte of a branch at `pc` to `target`, which must lie within -128 to +127 of the next
instruction. -/
def branchOffset (pc target : Word) : Option Byte :=
  let d : Int := (target - (pc + 2)).toInt
  if -128 ≤ d ∧ d ≤ 127 then some (BitVec.ofInt 8 d) else none

end Sys2Proof.Machine
end

