-- ==== Sys2Proof/Machine/Timing.lean ====
section
/-! DEFINITION. Cycle counts (R89, R270 to R274). They are documentation of duration: no step reads one
and the state holds none (R35, R270). -/

namespace Sys2Proof.Machine

/-- R74: how an instruction uses its operand. -/
inductive OperandKind where
  | read
  | write
  | modify
  | target
  | none
  deriving DecidableEq, Repr

/-- R74. -/
def operandKind : Mnemonic → OperandKind
  | .lda | .ldx | .ldy | .and | .ora | .eor | .bit | .adc | .sbc | .cmp | .cpx | .cpy => .read
  | .sta | .stx | .sty => .write
  | .asl | .lsr | .rol | .ror | .inc | .dec => .modify
  | .jmp | .jsr | .bcc | .bcs | .beq | .bmi | .bne | .bpl | .bvc | .bvs => .target
  | .tax | .tay | .tsx | .txa | .txs | .tya | .pha | .php | .pla | .plp | .dex | .dey | .inx | .iny
  | .brk | .rti | .rts | .clc | .cld | .cli | .clv | .sec | .sed | .sei | .nop => .none

/-- The last column of R271, for the mnemonics of mode IMP. -/
def impliedCycles : Mnemonic → Nat
  | .pha | .php => 3
  | .pla | .plp => 4
  | .rts | .rti => 6
  | .brk => 7
  | .lda | .ldx | .ldy | .and | .ora | .eor | .bit | .adc | .sbc | .cmp | .cpx | .cpy
  | .sta | .stx | .sty | .asl | .lsr | .rol | .ror | .inc | .dec
  | .jmp | .jsr | .bcc | .bcs | .beq | .bmi | .bne | .bpl | .bvc | .bvs
  | .tax | .tay | .tsx | .txa | .txs | .tya | .dex | .dey | .inx | .iny
  | .clc | .cld | .cli | .clv | .sec | .sed | .sei | .nop => 2

/-- R271: the printed count without its `+p` and `+t+p`. -/
def baseCycles (m : Mnemonic) (mode : Mode) : Nat :=
  match mode with
  | .imp => impliedCycles m
  | .acc | .imm | .rel => 2
  | .zp => if operandKind m = .modify then 5 else 3
  | .zpX | .zpY => if operandKind m = .modify then 6 else 4
  | .abs => if m = .jmp then 3 else if m = .jsr ∨ operandKind m = .modify then 6 else 4
  | .absX | .absY =>
    if operandKind m = .modify then 7 else if operandKind m = .write then 5 else 4
  | .ind => 5
  | .indX => 6
  | .indY => if operandKind m = .write then 6 else 5

/-- R89: two addresses lie in different pages. -/
def pageDiffers (a b : Word) : Bool := hiByte a != hiByte b

/-- R89, R272: the instruction's indexed address lies in another page than its base, or its branch target
in another page than the next instruction. -/
def State.pageCrossed (s : State) (i : Instr) : Access Bool :=
  match i.mode, i.operand with
  | .absX, .word a => .ok (pageDiffers (a + zext16 s.X) a)
  | .absY, .word a => .ok (pageDiffers (a + zext16 s.Y) a)
  | .indY, .byte z => do
    let base ← s.zeroPagePointer z
    .ok (pageDiffers (base + zext16 s.Y) base)
  | .rel, .byte off => .ok (pageDiffers (branchTarget s.pc off) (s.pc + 2))
  | _, _ => .ok false

/-- R190: the flag value that each branch names holds. -/
def State.branchTaken (s : State) (m : Mnemonic) : Bool :=
  (m == .bcc && !s.C) || (m == .bcs && s.C) || (m == .beq && s.Z) || (m == .bne && !s.Z)
    || (m == .bmi && s.N) || (m == .bpl && !s.N) || (m == .bvc && !s.V) || (m == .bvs && s.V)

/-- R270 to R273: the cycles instruction `i` takes when it starts in state `s`. -/
def State.cycles (s : State) (i : Instr) : Access Nat :=
  let printed := baseCycles i.mnemonic i.mode
  if i.mode = .rel then do
    let p ← s.pageCrossed i
    .ok (if s.branchTaken i.mnemonic then printed + 1 + bitNat p else printed)
  else if operandKind i.mnemonic = .read then do
    let p ← s.pageCrossed i
    .ok (printed + bitNat p)
  else .ok printed

/-- R274: interrupt entry and the reset sequence. -/
def entryCycles : Nat := 7

end Sys2Proof.Machine
end

