-- ==== Sys2Proof/Machine/Effects.lean ====
section
/-! DEFINITION. The effects of the memory and stack operations as plain functions of the state, and the
conditions under which those operations complete: how statements say what an instruction leaves behind.
`exec` does not use them. -/

namespace Sys2Proof.Machine

/-- R43: every access to `a` has a meaning in the spec. -/
def State.accessible (s : State) (a : Word) : Prop := s.kindAt a = .ram ∨ s.kindAt a = .rom

/-- Every address of the platform is RAM or ROM; the default platform is such a one (R43, P4). -/
def State.plainMap (s : State) : Prop := ∀ a, s.accessible a

/-- Every address of the stack page is RAM (R52, and the default of R43). -/
def State.ramStack (s : State) : Prop := ∀ sp, s.kindAt (stackAddr sp) = .ram

/-- The state after `MemWrite(a, 1, v)` at an accessible address: RAM holds `v`, ROM is unchanged (R43). -/
def State.stored (s : State) (a : Word) (v : Byte) : State :=
  { s with mem := if s.kindAt a = .ram then Memory.write s.mem a.toNat v else s.mem }

/-- The state after `push(v)` (R6). -/
def State.pushed (s : State) (v : Byte) : State := (s.stored (stackAddr s.S) v).setS (s.S - 1)

/-- The state after pushing a word, its high byte first (R46). -/
def State.pushedWord (s : State) (w : Word) : State := (s.pushed (hiByte w)).pushed (loByte w)

/-- The byte a `pull()` gives (R6). -/
def State.top (s : State) : Byte := s.peek (stackAddr (s.S + 1))

/-- The word that two pulls give, its low byte first (R46). -/
def State.topWord (s : State) : Word := mkWord (s.peek (stackAddr (s.S + 2))) s.top

/-- The three pushes of an entry or of BRK: the return address, then the status byte with bit 4 equal to
`b` (R218, R237). -/
def State.pushedFrame (s : State) (b : Bool) (ret : Word) : State :=
  (s.pushedWord ret).pushed (s.statusByte b)

/-- The address a vector holds (R219). -/
def State.vectorWord (s : State) (vector : Word) : Word := Memory.wordAt s.mem vector

end Sys2Proof.Machine
end

