-- ==== Sys2Proof/Machine/Forms.lean ====
section
/-! DEFINITION. The instruction-by-mode matrix of R97: for each mnemonic with several operand forms, the
opcode byte and the instruction each form has, as the "Operands" and "Encoding" lines of its rule list
them; `none` where the combination does not exist. Statements about an instruction quantify over these
tables; `exec` does not use them. -/

namespace Sys2Proof.Machine

/-- R73: the operand field that encodes an addressing form. -/
def MemOperand.field : MemOperand → OperandField
  | .zp z | .zpX z | .zpY z | .indX z | .indY z => .byte z
  | .abs a | .absX a | .absY a => .word a

/-- R73: the operand field that encodes a read operand. -/
def ReadOperand.field : ReadOperand → OperandField
  | .imm m => .byte m
  | .mem o => o.field

/-- R73: the operand field that encodes a read-modify-write operand. -/
def RmwOperand.field : RmwOperand → OperandField
  | .acc => .none
  | .mem o => o.field

/-- R101, R97: the forms of LDA. -/
def ldaForm : ReadOperand → Option (Byte × Instr)
  | .imm m => some (0xA9, .ldaImm m)
  | .mem (.zp z) => some (0xA5, .ldaZp z)
  | .mem (.zpX z) => some (0xB5, .ldaZpX z)
  | .mem (.abs a) => some (0xAD, .ldaAbs a)
  | .mem (.absX a) => some (0xBD, .ldaAbsX a)
  | .mem (.absY a) => some (0xB9, .ldaAbsY a)
  | .mem (.indX z) => some (0xA1, .ldaIndX z)
  | .mem (.indY z) => some (0xB1, .ldaIndY z)
  | .mem (.zpY _) => none

/-- R102, R97: the forms of LDX. -/
def ldxForm : ReadOperand → Option (Byte × Instr)
  | .imm m => some (0xA2, .ldxImm m)
  | .mem (.zp z) => some (0xA6, .ldxZp z)
  | .mem (.zpY z) => some (0xB6, .ldxZpY z)
  | .mem (.abs a) => some (0xAE, .ldxAbs a)
  | .mem (.absY a) => some (0xBE, .ldxAbsY a)
  | .mem (.zpX _) | .mem (.absX _) | .mem (.indX _) | .mem (.indY _) => none

/-- R103, R97: the forms of LDY. -/
def ldyForm : ReadOperand → Option (Byte × Instr)
  | .imm m => some (0xA0, .ldyImm m)
  | .mem (.zp z) => some (0xA4, .ldyZp z)
  | .mem (.zpX z) => some (0xB4, .ldyZpX z)
  | .mem (.abs a) => some (0xAC, .ldyAbs a)
  | .mem (.absX a) => some (0xBC, .ldyAbsX a)
  | .mem (.zpY _) | .mem (.absY _) | .mem (.indX _) | .mem (.indY _) => none

/-- R104, R97: the forms of STA. -/
def staForm : MemOperand → Option (Byte × Instr)
  | .zp z => some (0x85, .staZp z)
  | .zpX z => some (0x95, .staZpX z)
  | .abs a => some (0x8D, .staAbs a)
  | .absX a => some (0x9D, .staAbsX a)
  | .absY a => some (0x99, .staAbsY a)
  | .indX z => some (0x81, .staIndX z)
  | .indY z => some (0x91, .staIndY z)
  | .zpY _ => none

/-- R105, R97: the forms of STX. -/
def stxForm : MemOperand → Option (Byte × Instr)
  | .zp z => some (0x86, .stxZp z)
  | .zpY z => some (0x96, .stxZpY z)
  | .abs a => some (0x8E, .stxAbs a)
  | .zpX _ | .absX _ | .absY _ | .indX _ | .indY _ => none

/-- R106, R97: the forms of STY. -/
def styForm : MemOperand → Option (Byte × Instr)
  | .zp z => some (0x84, .styZp z)
  | .zpX z => some (0x94, .styZpX z)
  | .abs a => some (0x8C, .styAbs a)
  | .zpY _ | .absX _ | .absY _ | .indX _ | .indY _ => none

/-- R131, R97: the forms of ASL. -/
def aslForm : RmwOperand → Option (Byte × Instr)
  | .acc => some (0x0A, .aslAcc)
  | .mem (.zp z) => some (0x06, .aslZp z)
  | .mem (.zpX z) => some (0x16, .aslZpX z)
  | .mem (.abs a) => some (0x0E, .aslAbs a)
  | .mem (.absX a) => some (0x1E, .aslAbsX a)
  | .mem (.zpY _) | .mem (.absY _) | .mem (.indX _) | .mem (.indY _) => none

/-- R132, R97: the forms of LSR. -/
def lsrForm : RmwOperand → Option (Byte × Instr)
  | .acc => some (0x4A, .lsrAcc)
  | .mem (.zp z) => some (0x46, .lsrZp z)
  | .mem (.zpX z) => some (0x56, .lsrZpX z)
  | .mem (.abs a) => some (0x4E, .lsrAbs a)
  | .mem (.absX a) => some (0x5E, .lsrAbsX a)
  | .mem (.zpY _) | .mem (.absY _) | .mem (.indX _) | .mem (.indY _) => none

/-- R133, R97: the forms of ROL. -/
def rolForm : RmwOperand → Option (Byte × Instr)
  | .acc => some (0x2A, .rolAcc)
  | .mem (.zp z) => some (0x26, .rolZp z)
  | .mem (.zpX z) => some (0x36, .rolZpX z)
  | .mem (.abs a) => some (0x2E, .rolAbs a)
  | .mem (.absX a) => some (0x3E, .rolAbsX a)
  | .mem (.zpY _) | .mem (.absY _) | .mem (.indX _) | .mem (.indY _) => none

/-- R134, R97: the forms of ROR. -/
def rorForm : RmwOperand → Option (Byte × Instr)
  | .acc => some (0x6A, .rorAcc)
  | .mem (.zp z) => some (0x66, .rorZp z)
  | .mem (.zpX z) => some (0x76, .rorZpX z)
  | .mem (.abs a) => some (0x6E, .rorAbs a)
  | .mem (.absX a) => some (0x7E, .rorAbsX a)
  | .mem (.zpY _) | .mem (.absY _) | .mem (.indX _) | .mem (.indY _) => none

/-- R141, R97: the forms of AND. -/
def andForm : ReadOperand → Option (Byte × Instr)
  | .imm m => some (0x29, .andImm m)
  | .mem (.zp z) => some (0x25, .andZp z)
  | .mem (.zpX z) => some (0x35, .andZpX z)
  | .mem (.abs a) => some (0x2D, .andAbs a)
  | .mem (.absX a) => some (0x3D, .andAbsX a)
  | .mem (.absY a) => some (0x39, .andAbsY a)
  | .mem (.indX z) => some (0x21, .andIndX z)
  | .mem (.indY z) => some (0x31, .andIndY z)
  | .mem (.zpY _) => none

/-- R142, R97: the forms of BIT. -/
def bitForm : MemOperand → Option (Byte × Instr)
  | .zp z => some (0x24, .bitZp z)
  | .abs a => some (0x2C, .bitAbs a)
  | .zpX _ | .zpY _ | .absX _ | .absY _ | .indX _ | .indY _ => none

/-- R143, R97: the forms of EOR. -/
def eorForm : ReadOperand → Option (Byte × Instr)
  | .imm m => some (0x49, .eorImm m)
  | .mem (.zp z) => some (0x45, .eorZp z)
  | .mem (.zpX z) => some (0x55, .eorZpX z)
  | .mem (.abs a) => some (0x4D, .eorAbs a)
  | .mem (.absX a) => some (0x5D, .eorAbsX a)
  | .mem (.absY a) => some (0x59, .eorAbsY a)
  | .mem (.indX z) => some (0x41, .eorIndX z)
  | .mem (.indY z) => some (0x51, .eorIndY z)
  | .mem (.zpY _) => none

/-- R144, R97: the forms of ORA. -/
def oraForm : ReadOperand → Option (Byte × Instr)
  | .imm m => some (0x09, .oraImm m)
  | .mem (.zp z) => some (0x05, .oraZp z)
  | .mem (.zpX z) => some (0x15, .oraZpX z)
  | .mem (.abs a) => some (0x0D, .oraAbs a)
  | .mem (.absX a) => some (0x1D, .oraAbsX a)
  | .mem (.absY a) => some (0x19, .oraAbsY a)
  | .mem (.indX z) => some (0x01, .oraIndX z)
  | .mem (.indY z) => some (0x11, .oraIndY z)
  | .mem (.zpY _) => none

/-- R151, R97: the forms of ADC. -/
def adcForm : ReadOperand → Option (Byte × Instr)
  | .imm m => some (0x69, .adcImm m)
  | .mem (.zp z) => some (0x65, .adcZp z)
  | .mem (.zpX z) => some (0x75, .adcZpX z)
  | .mem (.abs a) => some (0x6D, .adcAbs a)
  | .mem (.absX a) => some (0x7D, .adcAbsX a)
  | .mem (.absY a) => some (0x79, .adcAbsY a)
  | .mem (.indX z) => some (0x61, .adcIndX z)
  | .mem (.indY z) => some (0x71, .adcIndY z)
  | .mem (.zpY _) => none

/-- R154, R97: the forms of CMP. -/
def cmpForm : ReadOperand → Option (Byte × Instr)
  | .imm m => some (0xC9, .cmpImm m)
  | .mem (.zp z) => some (0xC5, .cmpZp z)
  | .mem (.zpX z) => some (0xD5, .cmpZpX z)
  | .mem (.abs a) => some (0xCD, .cmpAbs a)
  | .mem (.absX a) => some (0xDD, .cmpAbsX a)
  | .mem (.absY a) => some (0xD9, .cmpAbsY a)
  | .mem (.indX z) => some (0xC1, .cmpIndX z)
  | .mem (.indY z) => some (0xD1, .cmpIndY z)
  | .mem (.zpY _) => none

/-- R155, R97: the forms of CPX. -/
def cpxForm : ReadOperand → Option (Byte × Instr)
  | .imm m => some (0xE0, .cpxImm m)
  | .mem (.zp z) => some (0xE4, .cpxZp z)
  | .mem (.abs a) => some (0xEC, .cpxAbs a)
  | .mem (.zpX _) | .mem (.zpY _) | .mem (.absX _) | .mem (.absY _)
  | .mem (.indX _) | .mem (.indY _) => none

/-- R156, R97: the forms of CPY. -/
def cpyForm : ReadOperand → Option (Byte × Instr)
  | .imm m => some (0xC0, .cpyImm m)
  | .mem (.zp z) => some (0xC4, .cpyZp z)
  | .mem (.abs a) => some (0xCC, .cpyAbs a)
  | .mem (.zpX _) | .mem (.zpY _) | .mem (.absX _) | .mem (.absY _)
  | .mem (.indX _) | .mem (.indY _) => none

/-- R157, R97: the forms of SBC. -/
def sbcForm : ReadOperand → Option (Byte × Instr)
  | .imm m => some (0xE9, .sbcImm m)
  | .mem (.zp z) => some (0xE5, .sbcZp z)
  | .mem (.zpX z) => some (0xF5, .sbcZpX z)
  | .mem (.abs a) => some (0xED, .sbcAbs a)
  | .mem (.absX a) => some (0xFD, .sbcAbsX a)
  | .mem (.absY a) => some (0xF9, .sbcAbsY a)
  | .mem (.indX z) => some (0xE1, .sbcIndX z)
  | .mem (.indY z) => some (0xF1, .sbcIndY z)
  | .mem (.zpY _) => none

/-- R171, R97: the forms of DEC. -/
def decForm : MemOperand → Option (Byte × Instr)
  | .zp z => some (0xC6, .decZp z)
  | .zpX z => some (0xD6, .decZpX z)
  | .abs a => some (0xCE, .decAbs a)
  | .absX a => some (0xDE, .decAbsX a)
  | .zpY _ | .absY _ | .indX _ | .indY _ => none

/-- R174, R97: the forms of INC. -/
def incForm : MemOperand → Option (Byte × Instr)
  | .zp z => some (0xE6, .incZp z)
  | .zpX z => some (0xF6, .incZpX z)
  | .abs a => some (0xEE, .incAbs a)
  | .absX a => some (0xFE, .incAbsX a)
  | .zpY _ | .absY _ | .indX _ | .indY _ => none

/-! ## By operand kind (R74) -/

/-- R74 *read*: the forms of the twelve instructions that read one operand byte. -/
def readForm : Mnemonic → ReadOperand → Option (Byte × Instr)
  | .lda, o => ldaForm o
  | .ldx, o => ldxForm o
  | .ldy, o => ldyForm o
  | .and, o => andForm o
  | .ora, o => oraForm o
  | .eor, o => eorForm o
  | .adc, o => adcForm o
  | .sbc, o => sbcForm o
  | .cmp, o => cmpForm o
  | .cpx, o => cpxForm o
  | .cpy, o => cpyForm o
  | .bit, .mem o => bitForm o
  | _, _ => none

/-- R74 *write*: the forms of the three stores. -/
def writeForm : Mnemonic → MemOperand → Option (Byte × Instr)
  | .sta, o => staForm o
  | .stx, o => stxForm o
  | .sty, o => styForm o
  | _, _ => none

/-- R74 *read-modify-write*: the forms of the six instructions that change their operand in place. -/
def modifyForm : Mnemonic → RmwOperand → Option (Byte × Instr)
  | .asl, o => aslForm o
  | .lsr, o => lsrForm o
  | .rol, o => rolForm o
  | .ror, o => rorForm o
  | .inc, .mem o => incForm o
  | .dec, .mem o => decForm o
  | _, _ => none

end Sys2Proof.Machine
end

