-- ==== Sys2Proof/Safety.lean ====
section
/-! DEFINITION. The terms in which statements speak of runs: the flag matrix of R25, the register
summary of R36, platforms on which every access has a meaning, the invariant of every step, and the
self-jump of R258. -/

namespace Sys2Proof.Machine

/-- The six stored flags (R17). -/
inductive Flag where
  | N | V | D | I | Z | C
  deriving DecidableEq, Repr

/-- The value of a flag. -/
def State.flag (s : State) : Flag → Bool
  | .N => s.N
  | .V => s.V
  | .D => s.D
  | .I => s.I
  | .Z => s.Z
  | .C => s.C

/-- An entry of the matrix of R25: blank, a constant, or a computed value. -/
inductive FlagEffect where
  | unchanged
  | constant (b : Bool)
  | computed
  deriving DecidableEq, Repr

/-- The flag-write matrix of R25. R130 and R132 add that LSR writes the constant 0 to N. -/
def flagEffect : Mnemonic → Flag → FlagEffect
  | .adc, f | .sbc, f =>
    match f with
    | .N | .V | .Z | .C => .computed
    | .D | .I => .unchanged
  | .and, f | .eor, f | .ora, f | .dec, f | .dex, f | .dey, f | .inc, f | .inx, f | .iny, f
  | .lda, f | .ldx, f | .ldy, f | .pla, f | .tax, f | .tay, f | .tsx, f | .txa, f | .tya, f =>
    match f with
    | .N | .Z => .computed
    | .V | .D | .I | .C => .unchanged
  | .asl, f | .rol, f | .ror, f | .cmp, f | .cpx, f | .cpy, f =>
    match f with
    | .N | .Z | .C => .computed
    | .V | .D | .I => .unchanged
  | .lsr, f =>
    match f with
    | .N => .constant false
    | .Z | .C => .computed
    | .V | .D | .I => .unchanged
  | .bit, f =>
    match f with
    | .N | .V | .Z => .computed
    | .D | .I | .C => .unchanged
  | .plp, _ | .rti, _ => .computed
  | .brk, f | .sei, f => if f = .I then .constant true else .unchanged
  | .clc, f => if f = .C then .constant false else .unchanged
  | .sec, f => if f = .C then .constant true else .unchanged
  | .cld, f => if f = .D then .constant false else .unchanged
  | .sed, f => if f = .D then .constant true else .unchanged
  | .cli, f => if f = .I then .constant false else .unchanged
  | .clv, f => if f = .V then .constant false else .unchanged
  | .bcc, _ | .bcs, _ | .beq, _ | .bmi, _ | .bne, _ | .bpl, _ | .bvc, _ | .bvs, _
  | .jmp, _ | .jsr, _ | .rts, _ | .nop, _ | .pha, _ | .php, _ | .sta, _ | .stx, _ | .sty, _
  | .txs, _ => .unchanged

/-- R36, the `w` sets: A is written. The shifts write A in accumulator mode only. -/
def Instr.writesA (i : Instr) : Bool :=
  match i.mnemonic with
  | .lda | .pla | .txa | .tya | .and | .ora | .eor | .adc | .sbc => true
  | .asl | .lsr | .rol | .ror => i.mode == .acc
  | _ => false

/-- R36: X is written. -/
def Instr.writesX (i : Instr) : Bool :=
  match i.mnemonic with
  | .ldx | .tax | .tsx | .inx | .dex => true
  | _ => false

/-- R36: Y is written. -/
def Instr.writesY (i : Instr) : Bool :=
  match i.mnemonic with
  | .ldy | .tay | .iny | .dey => true
  | _ => false

/-- R27: the amount each instruction but TXS adds to S, modulo 256. -/
def stackDelta : Mnemonic → Byte
  | .pha | .php => -1
  | .jsr => -2
  | .brk => -3
  | .pla | .plp => 1
  | .rts => 2
  | .rti => 3
  | _ => 0

/-- The instruction may store to memory: the stores, the memory forms of the read-modify-write
instructions, and the pushes of PHA, PHP, JSR and BRK (R74, R61). -/
def Instr.mayStore (i : Instr) : Bool :=
  match i.mnemonic with
  | .sta | .stx | .sty | .inc | .dec | .pha | .php | .jsr | .brk => true
  | .asl | .lsr | .rol | .ror => i.mode != .acc
  | _ => false

/-- R14: the instruction writes pc itself instead of advancing it. -/
def Instr.writesPc (i : Instr) : Bool :=
  match i.mnemonic with
  | .jmp | .jsr | .rts | .rti | .brk => true
  | _ => i.mode == .rel

/-- No event is due at the next boundary: no input, no latched NMI. -/
def State.quiet (s : State) : Prop := s.nextInput = {} ∧ s.nmiPending = false

/-- What every step keeps: memory is in its canonical form, and without `IFlagDelay` the component
`i_prev` is always `none` (R222). -/
def State.Inv (s : State) : Prop :=
  Memory.wf s.mem = true ∧ (s.cfg.iFlagDelay = false → s.iPrev = none)

/-- The step goes on. -/
def Completes (o : Host.Outcome State Fault Refusal) : Prop := ∃ t, o = .next t

/-- The stack page holds the same bytes in both states (R52). -/
def SameStack (s t : State) : Prop := ∀ sp, t.peek (stackAddr sp) = s.peek (stackAddr sp)

/-- R16, R18: `p` is the status byte of `s` with bit 4 equal to `b`, bit by bit: N V 1 b D I Z C. -/
def IsStatusByte (p : Byte) (s : State) (b : Bool) : Prop :=
  p.getLsbD 7 = s.N ∧ p.getLsbD 6 = s.V ∧ p.getLsbD 5 = true ∧ p.getLsbD 4 = b
    ∧ p.getLsbD 3 = s.D ∧ p.getLsbD 2 = s.I ∧ p.getLsbD 1 = s.Z ∧ p.getLsbD 0 = s.C

/-- R92: the 105 bytes that are no opcode. -/
def undefinedOpcodes : List Byte :=
  [0x02, 0x03, 0x04, 0x07, 0x0B, 0x0C, 0x0F, 0x12, 0x13, 0x14, 0x17, 0x1A, 0x1B, 0x1C, 0x1F]
    ++ [0x22, 0x23, 0x27, 0x2B, 0x2F, 0x32, 0x33, 0x34, 0x37, 0x3A, 0x3B, 0x3C, 0x3F, 0x42, 0x43]
    ++ [0x44, 0x47, 0x4B, 0x4F, 0x52, 0x53, 0x54, 0x57, 0x5A, 0x5B, 0x5C, 0x5F, 0x62, 0x63, 0x64]
    ++ [0x67, 0x6B, 0x6F, 0x72, 0x73, 0x74, 0x77, 0x7A, 0x7B, 0x7C, 0x7F, 0x80, 0x82, 0x83, 0x87]
    ++ [0x89, 0x8B, 0x8F, 0x92, 0x93, 0x97, 0x9B, 0x9C, 0x9E, 0x9F, 0xA3, 0xA7, 0xAB, 0xAF, 0xB2]
    ++ [0xB3, 0xB7, 0xBB, 0xBF, 0xC2, 0xC3, 0xC7, 0xCB, 0xCF, 0xD2, 0xD3, 0xD4, 0xD7, 0xDA, 0xDB]
    ++ [0xDC, 0xDF, 0xE2, 0xE3, 0xE7, 0xEB, 0xEF, 0xF2, 0xF3, 0xF4, 0xF7, 0xFA, 0xFB, 0xFC, 0xFF]

/-- R93: the five opcodes of ROR. -/
def rorOpcodes : List Byte := [0x6A, 0x66, 0x76, 0x6E, 0x7E]

/-! ## The shapes of statements about instructions

Each says, for one mnemonic, every form R97 gives it and every state in which its operand is there, that the
form has the encoding of its rule and that `exec` answers the next state the rule gives. -/

/-- A reading instruction (R74): with operand `v`, the state becomes `effect s v`, and pc moves past the
instruction. -/
def Reads (m : Mnemonic) (effect : State → Byte → State) : Prop :=
  ∀ (s : State) (o : ReadOperand) (opc : Byte) (i : Instr) (v : Byte),
    readForm m o = some (opc, i) → s.readOperand o = .ok v →
      encode i = opc :: o.field.bytes
        ∧ exec i s = .next { effect s v with pc := s.pc + o.length }

/-- A storing instruction (R74): the effective address receives the register's value, nothing else changes,
and pc moves past the instruction. -/
def Stores (m : Mnemonic) (reg : State → Byte) : Prop :=
  ∀ (s : State) (o : MemOperand) (opc : Byte) (i : Instr) (ea : Word),
    writeForm m o = some (opc, i) → s.effAddr o = .ok ea → s.accessible ea →
      encode i = opc :: o.field.bytes
        ∧ exec i s = .next { s.stored ea (reg s) with pc := s.pc + o.length }

/-- A read-modify-write instruction (R74): the operand `v` becomes `result s v` in its place, A or the byte
at the effective address, and `flags` sets the flags from `v`. -/
def Modifies (m : Mnemonic) (result : State → Byte → Byte) (flags : State → Byte → State) : Prop :=
  (∀ (s : State) (opc : Byte) (i : Instr), modifyForm m .acc = some (opc, i) →
      encode i = [opc]
        ∧ exec i s = .next { flags s s.A with A := result s s.A, pc := s.pc + 1 })
    ∧ ∀ (s : State) (o : MemOperand) (opc : Byte) (i : Instr) (ea : Word),
        modifyForm m (.mem o) = some (opc, i) → s.effAddr o = .ok ea → s.accessible ea →
          encode i = opc :: o.field.bytes
            ∧ exec i s = .next { flags (s.stored ea (result s (s.peek ea))) (s.peek ea) with
                                  pc := s.pc + o.length }

/-- A one-byte instruction of mode IMP with opcode `opc`: its effect, and pc moves by 1. -/
def Implied (i : Instr) (opc : Byte) (effect : State → State) : Prop :=
  encode i = [opc] ∧ ∀ s : State, exec i s = .next { effect s with pc := s.pc + 1 }

/-- A branch with opcode `opc` (R190): pc becomes the target if `taken` holds, else the next address, and
nothing else changes. -/
def Branches (i : Byte → Instr) (opc : Byte) (taken : State → Bool) : Prop :=
  ∀ (s : State) (off : Byte),
    encode (i off) = [opc, off]
      ∧ exec (i off) s = .next { s with
          pc := if taken s then BitVec.ofInt 16 (s.pc.toNat + 2 + off.toInt)
            else BitVec.ofNat 16 (s.pc.toNat + 2) }

/-! ## The shapes of the statement about cycle counts (R271 to R273) -/

/-- The reading instructions of R271. -/
def readMnemonics : List Mnemonic :=
  [.lda, .ldx, .ldy, .adc, .sbc, .and, .ora, .eor, .cmp, .cpx, .cpy, .bit]

/-- The storing instructions of R271. -/
def writeMnemonics : List Mnemonic := [.sta, .stx, .sty]

/-- The read-modify-write instructions of R271. -/
def modifyMnemonics : List Mnemonic := [.asl, .lsr, .rol, .ror, .inc, .dec]

/-- R272: `printed` cycles, one more if the address with its index lies in another page than its base. -/
def indexedCycles (printed : Nat) (base : Word) (index : Byte) : Nat :=
  if hiByte (BitVec.ofNat 16 (base.toNat + index.toNat)) = hiByte base then printed else printed + 1

/-- The column "read" of R271. -/
def ReadCycles (s : State) (i : Instr) : Prop :=
  (i.mode = .imm → s.cycles i = .ok 2) ∧ (i.mode = .zp → s.cycles i = .ok 3)
    ∧ (i.mode = .zpX ∨ i.mode = .zpY → s.cycles i = .ok 4) ∧ (i.mode = .abs → s.cycles i = .ok 4)
    ∧ (i.mode = .indX → s.cycles i = .ok 6)
    ∧ (∀ a, i.operand = .word a →
      (i.mode = .absX → s.cycles i = .ok (indexedCycles 4 a s.X))
        ∧ (i.mode = .absY → s.cycles i = .ok (indexedCycles 4 a s.Y)))
    ∧ (∀ z lo hi, i.operand = .byte z → i.mode = .indY → s.memRead (BitVec.ofNat 16 z.toNat) = .ok lo →
      s.memRead (BitVec.ofNat 16 ((z.toNat + 1) % 256)) = .ok hi →
        s.cycles i = .ok (indexedCycles 5 (mkWord hi lo) s.Y))

/-- The column "write" of R271. -/
def WriteCycles (s : State) (i : Instr) : Prop :=
  (i.mode = .zp → s.cycles i = .ok 3) ∧ (i.mode = .zpX ∨ i.mode = .zpY → s.cycles i = .ok 4)
    ∧ (i.mode = .abs → s.cycles i = .ok 4)
    ∧ (i.mode = .absX ∨ i.mode = .absY → s.cycles i = .ok 5)
    ∧ (i.mode = .indX ∨ i.mode = .indY → s.cycles i = .ok 6)

/-- The column "read-modify-write" of R271. -/
def ModifyCycles (s : State) (i : Instr) : Prop :=
  (i.mode = .acc → s.cycles i = .ok 2) ∧ (i.mode = .zp → s.cycles i = .ok 5)
    ∧ (i.mode = .zpX → s.cycles i = .ok 6) ∧ (i.mode = .abs → s.cycles i = .ok 6)
    ∧ (i.mode = .absX → s.cycles i = .ok 7)

/-- R273: the count of a branch. -/
def BranchCycles (s : State) (i : Byte → Instr) (taken : Bool) : Prop :=
  ∀ off : Byte, s.cycles (i off) = .ok
    (if taken then
      (if hiByte (BitVec.ofInt 16 (s.pc.toNat + 2 + off.toInt))
        = hiByte (BitVec.ofNat 16 (s.pc.toNat + 2)) then 3 else 4)
    else 2)

/-! ## The end of a run -/

/-- R258: the instruction the next step would run is a JMP to its own address or a taken branch to itself
(offset `$FE`). JSR, RTS, RTI, BRK and event entries are no self-jumps, wherever they lead. -/
def State.atSelfJump (s : State) : Prop :=
  ∃ i t, s.sample.fetch = .ok i ∧ (i.mnemonic = .jmp ∨ i.mode = .rel)
    ∧ exec i s.sample = .next t ∧ t.pc = s.pc

/-- R258 "IRQ masked": I is 1, and the mask that R222 may still use right after CLI, SEI or PLP is 1 too. -/
def State.irqMasked (s : State) : Prop := s.I = true ∧ s.iPrev ≠ some false

/-- R258 "no NMI": none is latched and none is signalled at any boundary to come. -/
def State.noNmi (s : State) : Prop := s.nmiPending = false ∧ ∀ b ∈ s.inputs, b.nmiEdge = false

/-- The next step executes a BRK: no event is taken before it, or the draw of R226 gives the BRK first. -/
def State.executesBrk (s : State) : Prop :=
  s.boundary.1 = .run ∧ s.boundary.2.fetch = .ok .brk

/-- P8 `HaltCondition`, OPEN: the usual choices of R258 for the end of a run. No step reads it; a harness
that runs the machine picks one. -/
inductive HaltCondition where
  | pcAt (a : Word)
  /-- A self-jump with IRQ masked and no NMI. -/
  | selfJump
  /-- A BRK is executed. -/
  | brkExecuted
  | stepsTaken (n : Nat)
  deriving DecidableEq, Repr

/-- The run that has taken `taken` steps ends in `s`. DESIGN CHOICE, safe (log entry 24), where R258 does not
say: every condition is asked of the state before a step, so a run that ends at a BRK ends before the step
that executes it, and goes on while an event due at that boundary is taken first; "masked" and "no NMI" are
read as `irqMasked` and `noNmi`; a RESET to come, which R258 does not name, does not matter. -/
def HaltCondition.holds (h : HaltCondition) (taken : Nat) (s : State) : Prop :=
  match h with
  | .pcAt a => s.pc = a
  | .selfJump => s.irqMasked ∧ s.noNmi ∧ s.atSelfJump
  | .brkExecuted => s.executesBrk
  | .stepsTaken n => n ≤ taken

end Sys2Proof.Machine
end

