-- ==== Sys2Proof/Certificates/Slice0/Obligations.lean ====
section
/-! DEFINITION. The statements about the model, for the provers. Each docstring names the rules of the spec
a statement formalises, or says that the statement is derived or the model's choice. -/

open Sys2Proof Sys2Proof.Machine

/-! ## Encoding -/

/-- R70 to R73, R90: decoding the encoding of any instruction the part has gives it back, with every operand,
and leaves the bytes after it. Tier 3 (a). -/
def Obligations.DecodeInvertsEncode : Prop :=
  ∀ (hasROR : Bool) (i : Instr) (rest : List Byte), i.wellFormed hasROR = true →
    decode hasROR (encode i ++ rest) = .ok (i, rest)

/-- R70, R71, R90: bytes that decode are the encoding of what they decode to, followed by the rest, and the
part has that instruction: no byte is dropped and no second spelling exists. -/
def Obligations.EncodeInvertsDecode : Prop :=
  ∀ (hasROR : Bool) (bytes rest : List Byte) (i : Instr), decode hasROR bytes = .ok (i, rest) →
    bytes = encode i ++ rest ∧ i.wellFormed hasROR = true

/-- The examples of R94's table and one word of each family, written out from the encodings of the rules. -/
def Obligations.SampleWordsDecode : Prop :=
  decode true [0x18] = .ok (.clc, []) ∧ decode true [0x0A] = .ok (.aslAcc, [])
    ∧ decode true [0xA9, 0x10] = .ok (.ldaImm 0x10, [])
    ∧ decode true [0xA5, 0x10] = .ok (.ldaZp 0x10, [])
    ∧ decode true [0xB5, 0x10] = .ok (.ldaZpX 0x10, [])
    ∧ decode true [0xB6, 0x10] = .ok (.ldxZpY 0x10, [])
    ∧ decode true [0xAD, 0x34, 0x12] = .ok (.ldaAbs 0x1234, [])
    ∧ decode true [0xBD, 0x34, 0x12] = .ok (.ldaAbsX 0x1234, [])
    ∧ decode true [0xB9, 0x34, 0x12] = .ok (.ldaAbsY 0x1234, [])
    ∧ decode true [0x6C, 0x34, 0x12] = .ok (.jmpInd 0x1234, [])
    ∧ decode true [0xA1, 0x10] = .ok (.ldaIndX 0x10, [])
    ∧ decode true [0xB1, 0x10] = .ok (.ldaIndY 0x10, [])
    ∧ decode true [0xD0, 0xF9] = .ok (.bne 0xF9, [])
    ∧ decode true [0x9D, 0xFF, 0x02] = .ok (.staAbsX 0x02FF, [])
    ∧ decode true [0xBA] = .ok (.tsx, []) ∧ decode true [0x08] = .ok (.php, [])
    ∧ decode true [0x24, 0x20] = .ok (.bitZp 0x20, [])
    ∧ decode true [0xE9, 0xF0] = .ok (.sbcImm 0xF0, [])
    ∧ decode true [0xC6, 0x40] = .ok (.decZp 0x40, [])
    ∧ decode true [0x20, 0x34, 0x12] = .ok (.jsr 0x1234, [])
    ∧ decode true [0xEA] = .ok (.nop, [])

/-- R92, R93: a step that fetches a byte that is no opcode of the part is refused with that byte and pc; every
other byte selects an instruction. -/
def Obligations.UndefinedOpcodeRefused : Prop :=
  ∀ (s : State) (opc : Byte), s.quiet → s.memRead s.pc = .ok opc →
    (opc ∈ undefinedOpcodes ∨ s.cfg.hasROR = false ∧ opc ∈ rorOpcodes →
        step s = .refused (.undefinedOpcode opc s.pc))
      ∧ (¬(opc ∈ undefinedOpcodes ∨ s.cfg.hasROR = false ∧ opc ∈ rorOpcodes) →
        (decodeOpcode s.cfg.hasROR opc).isSome = true)

/-- R85, R94: the offset byte an assembler computes brings a branch to its target, and it exists exactly for
the targets within -128 to +127 of the next instruction. -/
def Obligations.BranchOffsetReachesTarget : Prop :=
  ∀ (pc target : Word),
    (∀ off, branchOffset pc target = some off → branchTarget pc off = target)
      ∧ ((branchOffset pc target).isSome = true ↔
          -128 ≤ (target - (pc + 2)).toInt ∧ (target - (pc + 2)).toInt ≤ 127)

/-! ## Memory and addresses -/

/-- R43, R56, R29: after a write to RAM, a read there gives the byte written and a read of any other address
what it gave before. -/
def Obligations.MemoryReadsBackWrite : Prop :=
  ∀ (s t : State) (a : Word) (v : Byte), Memory.wf s.mem = true → s.kindAt a = .ram →
    s.memWrite a v = .ok t →
      t.memRead a = .ok v ∧ ∀ b, b ≠ a → t.memRead b = s.memRead b

/-- R43, R211: what a read and a write do at each kind of address; an access to a device or an unmapped address
raises `Unmapped(addr)`, a refusal of the model. That the map is a list of regions whose gaps are RAM is the
model's choice (log entry 15); R43's default is RAM everywhere. -/
def Obligations.MemMapKinds : Prop :=
  ∀ (s : State) (a : Word) (v : Byte),
    (s.kindAt a = .ram → s.memRead a = .ok (Memory.read s.mem a.toNat)
        ∧ s.memWrite a v = .ok { s with mem := Memory.write s.mem a.toNat v })
      ∧ (s.kindAt a = .rom → s.memRead a = .ok (Memory.read s.mem a.toNat)
        ∧ s.memWrite a v = .ok s)
      ∧ (s.kindAt a = .device ∨ s.kindAt a = .unmapped → s.memRead a = .error (.unmapped a)
        ∧ s.memWrite a v = .error (.unmapped a))
      ∧ ((∀ r ∈ s.cfg.memMap, ¬(r.base ≤ a.toNat ∧ a.toNat < r.base + r.size)) →
        s.kindAt a = .ram)

/-- R79 to R84, R87, R88, R55: the effective addresses, in exact arithmetic reduced modulo 256 or 65536. The
two indirect modes complete wherever their two pointer bytes in page zero are accessible. R74, R75, R78: the operand
of a reading instruction is the immediate byte itself, or the byte at the effective address. -/
def Obligations.EffectiveAddresses : Prop :=
  ∀ (s : State) (z : Byte) (a : Word),
    s.effAddr (.zp z) = .ok (BitVec.ofNat 16 z.toNat)
      ∧ s.effAddr (.zpX z) = .ok (BitVec.ofNat 16 ((z.toNat + s.X.toNat) % 256))
      ∧ s.effAddr (.zpY z) = .ok (BitVec.ofNat 16 ((z.toNat + s.Y.toNat) % 256))
      ∧ s.effAddr (.abs a) = .ok a
      ∧ s.effAddr (.absX a) = .ok (BitVec.ofNat 16 (a.toNat + s.X.toNat))
      ∧ s.effAddr (.absY a) = .ok (BitVec.ofNat 16 (a.toNat + s.Y.toNat))
      ∧ (∀ p q : Word, p = BitVec.ofNat 16 ((z.toNat + s.X.toNat) % 256) →
          q = BitVec.ofNat 16 ((z.toNat + s.X.toNat + 1) % 256) →
          s.accessible p → s.accessible q →
            s.effAddr (.indX z)
              = .ok (BitVec.ofNat 16 ((s.peek q).toNat * 256 + (s.peek p).toNat)))
      ∧ (∀ p q : Word, p = BitVec.ofNat 16 z.toNat →
          q = BitVec.ofNat 16 ((z.toNat + 1) % 256) →
          s.accessible p → s.accessible q →
            s.effAddr (.indY z)
              = .ok (BitVec.ofNat 16
                  ((s.peek q).toNat * 256 + (s.peek p).toNat + s.Y.toNat)))
      ∧ (∀ m : Byte, s.readOperand (.imm m) = .ok m)
      ∧ (∀ (o : MemOperand) (ea : Word), s.effAddr o = .ok ea → s.accessible ea →
          s.readOperand (.mem o) = .ok (s.peek ea))

/-- R6, R26, R28, R120: a push stores in page 1 at the stack pointer and leaves it one lower, a pull reads
one higher, both modulo 256 and without any check; a pull undoes a push. -/
def Obligations.StackPushPull : Prop :=
  ∀ (s : State) (v : Byte), Memory.wf s.mem = true → s.ramStack →
    ∃ t, s.push v = .ok t
      ∧ t.S = BitVec.ofNat 8 (s.S.toNat + 255)
      ∧ (∀ a : Word, t.peek a = if a.toNat = 256 + s.S.toNat then v else s.peek a)
      ∧ t.pull = .ok (v, { s with mem := t.mem })
      ∧ (∃ u, s.pull = .ok (s.peek (BitVec.ofNat 16 (256 + (s.S.toNat + 1) % 256)), u)
          ∧ u = { s with S := BitVec.ofNat 8 (s.S.toNat + 1) })

/-! ## Instructions: what each leaves, wherever its operand is there -/

/-- R101, R102, R103. -/
def Obligations.LoadResults : Prop :=
  Reads .lda (fun s v => { s with A := v, N := v.getLsbD 7, Z := decide (v = 0) })
    ∧ Reads .ldx (fun s v => { s with X := v, N := v.getLsbD 7, Z := decide (v = 0) })
    ∧ Reads .ldy (fun s v => { s with Y := v, N := v.getLsbD 7, Z := decide (v = 0) })

/-- R104, R105, R106. -/
def Obligations.StoreResults : Prop :=
  Stores .sta (fun s => s.A) ∧ Stores .stx (fun s => s.X) ∧ Stores .sty (fun s => s.Y)

/-- R111 to R116. TXS alone sets no flag. -/
def Obligations.TransferResults : Prop :=
  Implied .tax 0xAA
      (fun s => { s with X := s.A, N := s.A.getLsbD 7, Z := decide (s.A = 0) })
    ∧ Implied .tay 0xA8
      (fun s => { s with Y := s.A, N := s.A.getLsbD 7, Z := decide (s.A = 0) })
    ∧ Implied .tsx 0xBA
      (fun s => { s with X := s.S, N := s.S.getLsbD 7, Z := decide (s.S = 0) })
    ∧ Implied .txa 0x8A
      (fun s => { s with A := s.X, N := s.X.getLsbD 7, Z := decide (s.X = 0) })
    ∧ Implied .txs 0x9A (fun s => { s with S := s.X })
    ∧ Implied .tya 0x98
      (fun s => { s with A := s.Y, N := s.Y.getLsbD 7, Z := decide (s.Y = 0) })

/-- R121, R122, with the pushed status byte of R16 and R18 bit by bit. -/
def Obligations.PushResults : Prop :=
  encode .pha = [0x48] ∧ encode .php = [0x08]
    ∧ ∀ s : State, s.accessible (stackAddr s.S) →
        exec .pha s
            = .next { s.stored (stackAddr s.S) s.A with S := s.S - 1, pc := s.pc + 1 }
          ∧ ∃ p : Byte,
              exec .php s = .next { s.stored (stackAddr s.S) p with S := s.S - 1, pc := s.pc + 1 }
                ∧ IsStatusByte p s true

/-- R123, R124. Bits 5 and 4 of the byte PLP pulls are ignored (R18). -/
def Obligations.PullResults : Prop :=
  encode .pla = [0x68] ∧ encode .plp = [0x28]
    ∧ ∀ (s : State) (v : Byte), s.memRead (stackAddr (s.S + 1)) = .ok v →
        exec .pla s = .next { s with
            A := v, N := v.getLsbD 7, Z := decide (v = 0), S := s.S + 1, pc := s.pc + 1 }
          ∧ exec .plp s = .next { s with
            N := v.getLsbD 7, V := v.getLsbD 6, D := v.getLsbD 3, I := v.getLsbD 2
            Z := v.getLsbD 1, C := v.getLsbD 0, S := s.S + 1, pc := s.pc + 1 }

/-- R131 to R134: the operand moves by one place; C is the bit shifted out, N and Z come from the result. The
rotates bring the old carry in. -/
def Obligations.ShiftResults : Prop :=
  Modifies .asl (fun _ v => v <<< 1)
      (fun s v => { s with
        C := v.getLsbD 7, N := v.getLsbD 6, Z := decide (v <<< 1 = 0) })
    ∧ Modifies .lsr (fun _ v => v >>> 1)
      (fun s v => { s with
        C := v.getLsbD 0, N := false, Z := decide (v >>> 1 = 0) })
    ∧ Modifies .rol (fun s v => v <<< 1 ||| (if s.C then 1 else 0))
      (fun s v => { s with
        C := v.getLsbD 7, N := v.getLsbD 6
        Z := decide (v <<< 1 ||| (if s.C then 1 else 0) = 0) })
    ∧ Modifies .ror (fun s v => v >>> 1 ||| (if s.C then 0x80 else 0))
      (fun s v => { s with
        C := v.getLsbD 0, N := s.C
        Z := decide (v >>> 1 ||| (if s.C then 0x80 else 0) = 0) })

/-- R141, R143, R144. -/
def Obligations.LogicResults : Prop :=
  Reads .and (fun s v => { s with
      A := s.A &&& v, N := (s.A &&& v).getLsbD 7, Z := decide (s.A &&& v = 0) })
    ∧ Reads .eor (fun s v => { s with
      A := s.A ^^^ v, N := (s.A ^^^ v).getLsbD 7, Z := decide (s.A ^^^ v = 0) })
    ∧ Reads .ora (fun s v => { s with
      A := s.A ||| v, N := (s.A ||| v).getLsbD 7, Z := decide (s.A ||| v = 0) })

/-- R142: N and V come from the memory byte itself. -/
def Obligations.BitResult : Prop :=
  Reads .bit (fun s v => { s with
    N := v.getLsbD 7, V := v.getLsbD 6, Z := decide (s.A &&& v = 0) })

/-- R151: ADC with D = 0, in exact sums. -/
def Obligations.AdcBinaryResult : Prop :=
  ∀ (s : State) (o : ReadOperand) (opc : Byte) (i : Instr) (m : Byte),
    readForm .adc o = some (opc, i) → s.readOperand o = .ok m → s.D = false →
      let sum := s.A.toNat + m.toNat + s.C.toNat
      let r : Byte := BitVec.ofNat 8 sum
      let signed : Int := s.A.toInt + m.toInt + s.C.toNat
      encode i = opc :: o.field.bytes
        ∧ exec i s = .next { s with
            A := r, N := r.getLsbD 7, Z := decide (r = 0), C := decide (sum > 255)
            V := decide (signed > 127 ∨ signed < -128), pc := s.pc + o.length }

/-- R157: SBC with D = 0, in exact differences. -/
def Obligations.SbcBinaryResult : Prop :=
  ∀ (s : State) (o : ReadOperand) (opc : Byte) (i : Instr) (m : Byte),
    readForm .sbc o = some (opc, i) → s.readOperand o = .ok m → s.D = false →
      let borrow : Int := 1 - s.C.toNat
      let diff : Int := s.A.toNat - m.toNat - borrow
      let r : Byte := BitVec.ofInt 8 diff
      let signed : Int := s.A.toInt - m.toInt - borrow
      encode i = opc :: o.field.bytes
        ∧ exec i s = .next { s with
            A := r, N := r.getLsbD 7, Z := decide (r = 0), C := decide (0 ≤ diff)
            V := decide (signed > 127 ∨ signed < -128), pc := s.pc + o.length }

/-- R152, R153, R158, R159 with `DecimalModel = Draw`: on valid BCD the accumulator and the carry are exact and N,
V, Z are free; otherwise all five are free. Nothing else changes but pc. The values the rules leave open
are existentially quantified: the statement rests on none of them (log entry 2). -/
def Obligations.DecimalDrawResults : Prop :=
  ∀ (s : State) (o : ReadOperand) (opc : Byte) (i : Instr) (m : Byte),
    s.readOperand o = .ok m → s.D = true → s.cfg.decimalModel = .draw →
      (readForm .adc o = some (opc, i) ∨ readForm .sbc o = some (opc, i) →
        ∃ (a : Byte) (n v z c : Bool) (k : Nat), exec i s = .next { s with
          A := a, N := n, V := v, Z := z, C := c, draws := k, pc := s.pc + o.length })
      ∧ (validBcd s.A = true → validBcd m = true →
        (readForm .adc o = some (opc, i) → ∃ (n v z : Bool) (k : Nat),
          let sum := decOf s.A + decOf m + s.C.toNat
          exec i s = .next { s with
            A := bcdOf (sum % 100), C := decide (sum > 99), N := n, V := v, Z := z
            draws := k, pc := s.pc + o.length })
        ∧ (readForm .sbc o = some (opc, i) → ∃ (n v z : Bool) (k : Nat),
          let diff : Int := decOf s.A - decOf m - (1 - s.C.toNat)
          exec i s = .next { s with
            A := bcdOf (diff % 100).toNat, C := decide (0 ≤ diff), N := n, V := v, Z := z
            draws := k, pc := s.pc + o.length }))

/-- R161 with `DecimalModel = NMOS`, for every input, in exact arithmetic: A, N, V, Z and C of decimal ADC, and A of
decimal SBC, whose flags are those of the binary difference. On valid BCD, A and C are the decimal ones (R152,
R158). R161 is the spec's general knowledge (log entry 13). -/
def Obligations.DecimalNmosResults : Prop :=
  ∀ (s : State) (o : ReadOperand) (opc : Byte) (i : Instr) (m : Byte),
    s.readOperand o = .ok m → s.D = true → s.cfg.decimalModel = .nmos →
      let a := s.A.toNat
      let b := m.toNat
      let c := s.C.toNat
      let signedHigh (v : Nat) : Int := if v < 128 then v / 16 * 16 else v / 16 * 16 - 256
      (readForm .adc o = some (opc, i) →
        let al0 := a % 16 + b % 16 + c
        let al := if 10 ≤ al0 then (al0 + 6) % 16 + 16 else al0
        let t := a / 16 * 16 + b / 16 * 16 + al
        let ts : Int := signedHigh a + signedHigh b + al
        let t' := if 0xA0 ≤ t then t + 0x60 else t
        exec i s = .next { s with
            A := BitVec.ofNat 8 t', N := decide (128 ≤ t % 256)
            V := decide (ts > 127 ∨ ts < -128), Z := decide ((a + b + c) % 256 = 0)
            C := decide (0x100 ≤ t'), pc := s.pc + o.length }
          ∧ (validBcd s.A = true → validBcd m = true →
            BitVec.ofNat 8 t' = bcdOf ((decOf s.A + decOf m + c) % 100)
              ∧ (0x100 ≤ t' ↔ decOf s.A + decOf m + c > 99)))
      ∧ (readForm .sbc o = some (opc, i) →
        let al0 : Int := (a % 16 : Nat) - (b % 16 : Nat) + c - 1
        let al : Int := if al0 < 0 then (al0 - 6) % 16 - 16 else al0
        let u : Int := (a / 16 * 16 : Nat) - (b / 16 * 16 : Nat) + al
        let u' : Int := if u < 0 then u - 0x60 else u
        let diff : Int := a - b - (1 - c)
        let signed : Int := s.A.toInt - m.toInt - (1 - c)
        exec i s = .next { s with
            A := BitVec.ofInt 8 u', N := decide (128 ≤ diff % 256)
            V := decide (signed > 127 ∨ signed < -128), Z := decide (diff % 256 = 0)
            C := decide (0 ≤ diff), pc := s.pc + o.length }
          ∧ (validBcd s.A = true → validBcd m = true →
            BitVec.ofInt 8 u' = bcdOf (((decOf s.A : Int) - decOf m - (1 - c)) % 100).toNat
              ∧ (0 ≤ diff ↔ 0 ≤ (decOf s.A : Int) - decOf m - (1 - c))))

/-- R154, R155, R156: only C, Z and N change; the old carry and D play no part. -/
def Obligations.CompareResults : Prop :=
  Reads .cmp (fun s v => { s with
      C := decide (v.toNat ≤ s.A.toNat), Z := decide (s.A = v), N := (s.A - v).getLsbD 7 })
    ∧ Reads .cpx (fun s v => { s with
      C := decide (v.toNat ≤ s.X.toNat), Z := decide (s.X = v), N := (s.X - v).getLsbD 7 })
    ∧ Reads .cpy (fun s v => { s with
      C := decide (v.toNat ≤ s.Y.toNat), Z := decide (s.Y = v), N := (s.Y - v).getLsbD 7 })

/-- R171 to R176: add or subtract 1 modulo 256; N and Z from the result; C and V stay. -/
def Obligations.IncDecResults : Prop :=
  Modifies .inc (fun _ v => v + 1)
      (fun s v => { s with N := (v + 1).getLsbD 7, Z := decide (v + 1 = 0) })
    ∧ Modifies .dec (fun _ v => v - 1)
      (fun s v => { s with N := (v - 1).getLsbD 7, Z := decide (v - 1 = 0) })
    ∧ Implied .inx 0xE8 (fun s => { s with
      X := s.X + 1, N := (s.X + 1).getLsbD 7, Z := decide (s.X + 1 = 0) })
    ∧ Implied .iny 0xC8 (fun s => { s with
      Y := s.Y + 1, N := (s.Y + 1).getLsbD 7, Z := decide (s.Y + 1 = 0) })
    ∧ Implied .dex 0xCA (fun s => { s with
      X := s.X - 1, N := (s.X - 1).getLsbD 7, Z := decide (s.X - 1 = 0) })
    ∧ Implied .dey 0x88 (fun s => { s with
      Y := s.Y - 1, N := (s.Y - 1).getLsbD 7, Z := decide (s.Y - 1 = 0) })

/-- R181, R18: BRK pushes pc + 2, high byte first, and the status byte with bit 4 equal to 1 and the old I, bit
by bit, sets I, and goes where the vector at $FFFE points. -/
def Obligations.BrkResult : Prop :=
  encode .brk = [0x00] ∧ ∀ s : State,
    s.accessible (stackAddr s.S) → s.accessible (stackAddr (s.S - 1)) →
    s.accessible (stackAddr (s.S - 2)) → s.accessible 0xFFFE → s.accessible 0xFFFF →
      ∃ p : Byte, IsStatusByte p s true ∧
        let t := ((s.stored (stackAddr s.S) (hiByte (s.pc + 2))).stored (stackAddr (s.S - 1))
          (loByte (s.pc + 2))).stored (stackAddr (s.S - 2)) p
        exec .brk s = .next { t with
          S := s.S - 3, I := true, iPrev := none, pc := mkWord (t.peek 0xFFFF) (t.peek 0xFFFE) }

/-- R182, R86, R264: JMP changes pc alone. The indirect form reads its target low byte first, the high byte
from the same page while `JmpIndirectPageBug` is true. -/
def Obligations.JmpResults : Prop :=
  (∀ (s : State) (a : Word), encode (.jmpAbs a) = [0x4C, loByte a, hiByte a]
      ∧ exec (.jmpAbs a) s = .next { s with pc := a })
    ∧ ∀ (s : State) (ptr high : Word) (lo hi : Byte),
        high = (if s.cfg.jmpIndirectPageBug then
          BitVec.ofNat 16 (ptr.toNat / 256 * 256 + (ptr.toNat % 256 + 1) % 256)
          else BitVec.ofNat 16 (ptr.toNat + 1)) →
        s.memRead ptr = .ok lo → s.memRead high = .ok hi →
          encode (.jmpInd ptr) = [0x6C, loByte ptr, hiByte ptr]
            ∧ exec (.jmpInd ptr) s
              = .next { s with pc := BitVec.ofNat 16 (hi.toNat * 256 + lo.toNat) }

/-- R183: JSR pushes the address of its own last byte, high byte first, and jumps. -/
def Obligations.JsrResult : Prop :=
  ∀ (s : State) (a : Word),
    encode (.jsr a) = [0x20, loByte a, hiByte a]
      ∧ (s.accessible (stackAddr s.S) → s.accessible (stackAddr (s.S - 1)) →
        exec (.jsr a) s = .next { (s.stored (stackAddr s.S) (hiByte (s.pc + 2))).stored
            (stackAddr (s.S - 1)) (loByte (s.pc + 2)) with
          S := s.S - 2, pc := a })

/-- R184, R185: RTI takes the six flags and then pc from the stack, RTS pc alone and adds 1. -/
def Obligations.ReturnResults : Prop :=
  encode .rti = [0x40] ∧ encode .rts = [0x60]
    ∧ ∀ (s : State) (b1 b2 b3 : Byte), s.memRead (stackAddr (s.S + 1)) = .ok b1 →
        s.memRead (stackAddr (s.S + 2)) = .ok b2 →
          exec .rts s = .next { s with S := s.S + 2, pc := mkWord b2 b1 + 1 }
            ∧ (s.memRead (stackAddr (s.S + 3)) = .ok b3 →
              exec .rti s = .next { s with
                N := b1.getLsbD 7, V := b1.getLsbD 6, D := b1.getLsbD 3, I := b1.getLsbD 2
                Z := b1.getLsbD 1, C := b1.getLsbD 0, S := s.S + 3, pc := mkWord b3 b2 })

/-- R85, R190 to R198: each branch, taken and not taken. -/
def Obligations.BranchResults : Prop :=
  Branches .bcc 0x90 (fun s => !s.C) ∧ Branches .bcs 0xB0 (fun s => s.C)
    ∧ Branches .bne 0xD0 (fun s => !s.Z) ∧ Branches .beq 0xF0 (fun s => s.Z)
    ∧ Branches .bpl 0x10 (fun s => !s.N) ∧ Branches .bmi 0x30 (fun s => s.N)
    ∧ Branches .bvc 0x50 (fun s => !s.V) ∧ Branches .bvs 0x70 (fun s => s.V)

/-- R200 to R208: each flag instruction writes its one flag; NOP writes nothing. -/
def Obligations.FlagInstructionResults : Prop :=
  Implied .clc 0x18 (fun s => { s with C := false })
    ∧ Implied .sec 0x38 (fun s => { s with C := true })
    ∧ Implied .cld 0xD8 (fun s => { s with D := false })
    ∧ Implied .sed 0xF8 (fun s => { s with D := true })
    ∧ Implied .cli 0x58 (fun s => { s with I := false })
    ∧ Implied .sei 0x78 (fun s => { s with I := true })
    ∧ Implied .clv 0xB8 (fun s => { s with V := false })
    ∧ Implied .nop 0xEA (fun s => s)

/-! ## Laws of the arithmetic -/

/-- R151, R157: the spec's other two formulas of V. -/
def Obligations.OverflowFormulas : Prop :=
  ∀ (a m : Byte) (c : Bool),
    ((adcBinary a m c).v
        = (a.msb == m.msb && (adcBinary a m c).value.msb != a.msb))
      ∧ ((adcBinary a m c).v
        = ((a ^^^ (adcBinary a m c).value) &&& (m ^^^ (adcBinary a m c).value)).msb)
      ∧ ((sbcBinary a m c).v
        = (a.msb != m.msb && (sbcBinary a m c).value.msb != a.msb))
      ∧ ((sbcBinary a m c).v
        = ((a ^^^ m) &&& (a ^^^ (sbcBinary a m c).value)).msb)

/-- R157: "Binary SBC of M equals binary ADC of `M ^ $FF` with the same C, in A and in all four flags". -/
def Obligations.SbcIsAdcOfComplement : Prop :=
  ∀ (s t u : State) (m : Byte), s.D = false → exec (.sbcImm m) s = .next t →
    exec (.adcImm (m ^^^ 0xFF)) s = .next u → t = u

/-- R152, R158, R161: the NMOS formulas agree with decimal addition and subtraction on valid BCD. -/
def Obligations.NmosAgreesOnValidBcd : Prop :=
  ∀ (a m : Byte) (c : Bool),
    (∀ r, adcDecimal a m c = some r → r = ((adcNmos a m c).value, (adcNmos a m c).c))
      ∧ (∀ r, sbcDecimal a m c = some r → r = ((sbcNmos a m c).value, (sbcNmos a m c).c))

/-- R134: ROR undoes ROL on the same operand, in the operand and in C. -/
def Obligations.RorUndoesRol : Prop :=
  ∀ (s : State) (o : RmwOperand) (b b' : Byte) (i j : Instr) (t u : State),
    Memory.wf s.mem = true →
    (∀ m ea, o = .mem m → s.effAddr m = .ok ea → s.kindAt ea = .ram) →
    modifyForm .rol o = some (b, i) → modifyForm .ror o = some (b', j) →
    exec i s = .next t → exec j t = .next u →
      u.C = s.C ∧ u.A = s.A ∧ ∀ a, u.peek a = s.peek a

/-- R22, R140, R154, R170: no instruction but ADC and SBC depends on D. The others run from a state with another
D to the same result, except for D itself; PHP and BRK push it and are left out, RTI and PLP replace it. -/
def Obligations.DecimalFlagReadOnlyByAddAndSubtract : Prop :=
  ∀ (s t : State) (i : Instr) (d : Bool),
    i.mnemonic ≠ .adc → i.mnemonic ≠ .sbc → i.mnemonic ≠ .php → i.mnemonic ≠ .brk →
    exec i s = .next t →
      ∃ u, exec i { s with D := d } = .next u ∧ { u with D := t.D } = t
        ∧ (u.D = t.D ∨ u.D = d ∧ t.D = s.D)

/-! ## Frames -/

/-- R25: the flag-write matrix, for all instructions. A blank entry leaves the flag, a constant entry writes it. -/
def Obligations.FlagMatrix : Prop :=
  ∀ (s t : State) (i : Instr) (f : Flag), exec i s = .next t →
    match flagEffect i.mnemonic f with
    | .unchanged => t.flag f = s.flag f
    | .constant b => t.flag f = b
    | .computed => True

/-- R36, R10, R11, R12: A, X and Y change only through the instructions that write them. -/
def Obligations.RegisterFrame : Prop :=
  ∀ (s t : State) (i : Instr), exec i s = .next t →
    (Instr.writesA i = false → t.A = s.A) ∧ (Instr.writesX i = false → t.X = s.X)
      ∧ (Instr.writesY i = false → t.Y = s.Y)

/-- R27: what each instruction does to S; all others leave it. -/
def Obligations.StackPointerFrame : Prop :=
  ∀ (s t : State) (i : Instr), exec i s = .next t →
    t.S = if i.mnemonic = .txs then s.X else s.S + stackDelta i.mnemonic

/-- R14: every instruction that does not write pc moves it past itself, modulo 65536. -/
def Obligations.PcAdvance : Prop :=
  ∀ (s t : State) (i : Instr), Instr.writesPc i = false → exec i s = .next t →
    t.pc = BitVec.ofNat 16 (s.pc.toNat + i.length)

/-- R74: an instruction that stores nothing leaves every byte of memory. -/
def Obligations.NonStoringMemoryFrame : Prop :=
  ∀ (s t : State) (i : Instr), Instr.mayStore i = false → exec i s = .next t →
    ∀ a, t.peek a = s.peek a

/-- R74, R75, R43: a store or a read-modify-write changes at most the byte at its effective address, and not
that one if it is ROM. -/
def Obligations.OperandStoreFrame : Prop :=
  ∀ (s t : State) (i : Instr) (m : Mnemonic) (o : MemOperand) (opc : Byte) (ea : Word),
    Memory.wf s.mem = true →
    (writeForm m o = some (opc, i) ∨ modifyForm m (.mem o) = some (opc, i)) →
    s.effAddr o = .ok ea → exec i s = .next t →
      ∀ a, a ≠ ea ∨ s.kindAt ea ≠ .ram → t.peek a = s.peek a

/-- R61, R121, R122, R181, R183, R237: PHA and PHP change at most the byte at the stack pointer, JSR the two there and
below, BRK the three. -/
def Obligations.PushFrame : Prop :=
  ∀ (s t : State) (i : Instr) (a : Word), Memory.wf s.mem = true → exec i s = .next t →
    (i = .pha ∨ i = .php → a ≠ stackAddr s.S → t.peek a = s.peek a)
      ∧ ((∃ w, i = .jsr w) → a ≠ stackAddr s.S → a ≠ stackAddr (s.S - 1) →
        t.peek a = s.peek a)
      ∧ (i = .brk → a ≠ stackAddr s.S → a ≠ stackAddr (s.S - 1) → a ≠ stackAddr (s.S - 2) →
        t.peek a = s.peek a)

/-- R31, R32, R35: an instruction changes neither the NMI latch nor the platform nor the inputs to come; of
`i_prev` only BRK's entry writes it before the end of the step; free values are drawn by ADC and SBC in
decimal mode alone (the field `draws` is the model's own, log entry 2). -/
def Obligations.HiddenStateFrame : Prop :=
  ∀ (s t : State) (i : Instr), exec i s = .next t →
    t.nmiPending = s.nmiPending ∧ t.cfg = s.cfg ∧ t.inputs = s.inputs
      ∧ t.iPrev = (if i = .brk then none else s.iPrev)
      ∧ (i.mnemonic ≠ .adc ∧ i.mnemonic ≠ .sbc ∨ s.D = false → t.draws = s.draws)

/-! ## Completion and stops -/

/-- R43, R210, R211: on a platform of RAM and ROM, every instruction completes in every state. -/
def Obligations.EveryInstructionCompletes : Prop :=
  ∀ (s : State) (i : Instr), s.plainMap → ∃ t, exec i s = .next t

/-- R43, R211, R235: no instruction faults, and one is refused only for an address that the map marks Unmapped or
Device: the refusal is `Unmapped` of that address. -/
def Obligations.StopsOnlyAtHoles : Prop :=
  ∀ (s : State) (i : Instr),
    (∀ f, exec i s ≠ .fault f)
      ∧ (∀ r, exec i s = .refused r →
        ∃ a, (s.kindAt a = .unmapped ∨ s.kindAt a = .device) ∧ r = .unmapped a)

/-- R43, R100: where the access to the operand has no meaning, the instruction stops for that reason. -/
def Obligations.OperandStops : Prop :=
  ∀ (s : State) (m : Mnemonic) (opc : Byte) (i : Instr) (e : Refusal),
    (∀ o, readForm m o = some (opc, i) → s.readOperand o = .error e → exec i s = .refused e)
      ∧ (∀ o v, writeForm m o = some (opc, i) → s.writeOperand o v = .error e →
        exec i s = .refused e)
      ∧ (∀ o, modifyForm m (.mem o) = some (opc, i) → s.readOperand (.mem o) = .error e →
        exec i s = .refused e)

/-! ## The step -/

/-- R7: with nothing due at the boundary, a step at bytes that decode to an instruction is `exec` of it, followed
by the update of `i_prev` (R222). The bytes the instruction has must be accessible. -/
def Obligations.StepRunsDecodedInstruction : Prop :=
  ∀ (s : State) (i : Instr) (rest : List Byte), s.quiet →
    decode s.cfg.hasROR [s.peek s.pc, s.peek (s.pc + 1), s.peek (s.pc + 2)] = .ok (i, rest) →
    s.accessible s.pc → (2 ≤ i.length → s.accessible (s.pc + 1)) →
    (3 ≤ i.length → s.accessible (s.pc + 2)) →
      step s = match exec i { s with inputs := s.inputs.tail } with
        | .next t => .next { t with
            iPrev := if s.cfg.iFlagDelay = true
                ∧ (i.mnemonic = .cli ∨ i.mnemonic = .sei ∨ i.mnemonic = .plp)
              then some s.I else none }
        | .fault f => .fault f
        | .refused r => .refused r

/-- R31, R33: the NMI edge and the set-overflow input take effect at the boundary: they are the same as the
latch, respectively V, being set already; an unused set-overflow input is without effect. -/
def Obligations.InputsTakeEffectAtBoundary : Prop :=
  ∀ (s : State) (b : BoundaryInput) (later : List BoundaryInput), s.inputs = b :: later →
    step s = step { s with
      nmiPending := s.nmiPending || b.nmiEdge
      V := s.V || (s.cfg.soPinUsed && b.setOverflow)
      inputs := { b with nmiEdge := false, setOverflow := false } :: later }

/-- R216, R250, R220: RESET is taken before everything else; I is 1, nothing waits, pc comes from the vector at $FFFC,
memory stays, and the other registers and flags hold values the rules leave open (log entry 2). That nothing waits
even where an NMI edge is signalled at this very boundary is the model's reading (log entry 12, DEDUCED): R220
alone would let a due event stay due, R216 and R250 clear the latch. -/
def Obligations.ResetTaken : Prop :=
  ∀ s : State, s.nextInput.resetLine = true → s.accessible 0xFFFC → s.accessible 0xFFFD →
    ∃ (a x y sp : Byte) (n v d z c : Bool) (k : Nat), step s = .next { s with
      A := a, X := x, Y := y, S := sp, N := n, V := v, D := d, Z := z, C := c, I := true
      nmiPending := false, iPrev := none, draws := k, inputs := s.inputs.tail
      pc := mkWord (s.peek 0xFFFD) (s.peek 0xFFFC) }

/-- R215, R218, R220: a latched NMI is taken whatever I and the IRQ line are, and the latch is cleared. -/
def Obligations.NmiTaken : Prop :=
  ∀ s t : State, s.nextInput.resetLine = false →
    (s.nmiPending || s.nextInput.nmiEdge) = true →
    s.sample.enter 0xFFFA false s.pc = .ok t →
      step s = .next { t with nmiPending := false }

/-- R214, R220, R217: with no RESET and no NMI due and no CLI, SEI or PLP just before, an asserted IRQ line is taken
when I is 0 and the byte at pc is no BRK; with I at 1, or the line not asserted, the next instruction
runs. -/
def Obligations.IrqRecognition : Prop :=
  ∀ s : State, s.nextInput.resetLine = false → s.nmiPending = false →
    s.nextInput.nmiEdge = false → s.iPrev = none →
      (s.nextInput.irqLine = true → s.I = false → s.memRead s.pc ≠ .ok 0 →
        step s = finish (s.sample.enter 0xFFFE false s.pc))
      ∧ (s.nextInput.irqLine = false ∨ s.I = true → step s = s.sample.runInstruction)

/-- R222: right after CLI, SEI or PLP the mask is the new or the old value of I, and the rules do not say which:
the statement holds whichever is drawn (log entry 2). -/
def Obligations.MaskAfterFlagChange : Prop :=
  ∀ (s : State) (old : Bool), s.nextInput.resetLine = false → s.nmiPending = false →
    s.nextInput.nmiEdge = false → s.nextInput.irqLine = true → s.iPrev = some old →
    s.memRead s.pc ≠ .ok 0 →
      ∃ mask : Bool, (mask = s.I ∨ mask = old) ∧ ∃ k : Nat,
        step s = if mask then { s.sample with draws := k }.runInstruction
          else finish ({ s.sample with draws := k }.enter 0xFFFE false s.pc)

/-- R226, R266: an IRQ due at a BRK has one of three outcomes: the IRQ first, the BRK ignored, the BRK first.
`BrkIrqCollision` may name one; otherwise the rules leave it open and the statement holds whichever is
drawn (log entry 2). -/
def Obligations.BrkIrqCollision : Prop :=
  ∀ s : State, s.nextInput.resetLine = false → s.nmiPending = false →
    s.nextInput.nmiEdge = false → s.nextInput.irqLine = true → s.iPrev = none → s.I = false →
    s.memRead s.pc = .ok 0 →
      ∃ (c : Collision) (k : Nat),
        (s.cfg.brkIrqCollision = none ∨ s.cfg.brkIrqCollision = some c)
          ∧ step s = match c with
            | .irqFirst => finish ({ s.sample with draws := k }.enter 0xFFFE false s.pc)
            | .brkIgnored => finish ({ s.sample with draws := k }.enter 0xFFFE false (s.pc + 2))
            | .brkFirst => { s.sample with draws := k }.execute .brk

/-- R18, R211, R218, R237, R239: what `enter` leaves: the three bytes in page 1, the status byte bit by bit with
bit 4 equal to `b` and the old I, S three lower, I at 1, `i_prev` none, pc at the
vector's address; every other byte, A, X, Y and the other five flags stay. -/
def Obligations.EntryEffect : Prop :=
  ∀ (s : State) (vector ret : Word) (b : Bool), Memory.wf s.mem = true → s.ramStack →
    vector = 0xFFFA ∨ vector = 0xFFFE → s.accessible vector → s.accessible (vector + 1) →
      ∃ t, s.enter vector b ret = .ok t
        ∧ t.peek (stackAddr s.S) = hiByte ret ∧ t.peek (stackAddr (s.S - 1)) = loByte ret
        ∧ IsStatusByte (t.peek (stackAddr (s.S - 2))) s b
        ∧ (∀ a, a ≠ stackAddr s.S → a ≠ stackAddr (s.S - 1) → a ≠ stackAddr (s.S - 2) →
          t.peek a = s.peek a)
        ∧ t = { s with
            mem := t.mem, S := s.S - 3, I := true, iPrev := none
            pc := mkWord (s.peek (vector + 1)) (s.peek vector) }

/-- R186, R221, R225: RTI with S and the stack page as an entry left them resumes the interrupted program: pc, the
six flags and S are back; A, X, Y are as the handler left them. -/
def Obligations.RtiUndoesEntry : Prop :=
  ∀ (s t u : State) (vector ret : Word) (b : Bool), Memory.wf s.mem = true → s.ramStack →
    s.enter vector b ret = .ok t → u.S = t.S → u.cfg = t.cfg → SameStack t u →
      ∃ w, exec .rti u = .next w ∧ w.pc = ret ∧ w.S = s.S ∧ (∀ f, w.flag f = s.flag f)
        ∧ w.A = u.A ∧ w.X = u.X ∧ w.Y = u.Y ∧ w.mem = u.mem

/-- R186: RTS with S and the stack page as JSR left them continues after the JSR. -/
def Obligations.RtsUndoesJsr : Prop :=
  ∀ (s t u : State) (a : Word), Memory.wf s.mem = true → s.ramStack →
    exec (.jsr a) s = .next t → u.S = t.S → u.cfg = t.cfg → SameStack t u →
      exec .rts u = .next { u with S := s.S, pc := s.pc + 3 }

/-- What every step keeps, from every state (the invariant of `Safety.lean`): memory stays in canonical form, and
without `IFlagDelay` the component `i_prev` stays none (R222). Tier 3 (b). -/
def Obligations.StepKeepsInvariant : Prop :=
  ∀ s t : State, s.Inv → step s = .next t → t.Inv

/-- The state after reset satisfies the invariant, has I, `nmi_pending`, `i_prev` and pc as R34 says, the
parameters at R3's values, and RAM everywhere (R43's default). The values of A, X, Y, S, N, V, D, Z, C in it and
the empty memory are the model's choice (log entries 3 and 5), so the word pc holds is too. -/
def Obligations.ResetStateHolds : Prop :=
  State.reset.Inv ∧ State.reset.I = true ∧ State.reset.nmiPending = false
    ∧ State.reset.iPrev = none
    ∧ State.reset.pc = mkWord (State.reset.peek 0xFFFD) (State.reset.peek 0xFFFC)
    ∧ State.reset.cfg.hasROR = true ∧ State.reset.cfg.decimalModel = .draw
    ∧ State.reset.cfg.jmpIndirectPageBug = true ∧ State.reset.cfg.soPinUsed = false
    ∧ State.reset.cfg.brkIrqCollision = none ∧ State.reset.cfg.iFlagDelay = true
    ∧ ∀ a, State.reset.kindAt a = .ram

/-- R31, R32, R35, R215, R222: a step changes no parameter, consumes the inputs of one boundary, and never leaves an
NMI waiting: an edge is taken at the boundary it arrives at, unless RESET clears it. After it `i_prev` is
none, unless it ran CLI, SEI or PLP under `IFlagDelay`: then it holds the I from before. -/
def Obligations.StepHousekeeping : Prop :=
  ∀ s t : State, step s = .next t →
    t.cfg = s.cfg ∧ t.inputs = s.inputs.tail ∧ t.nmiPending = false
      ∧ (t.iPrev = none ∨ t.iPrev = some s.I ∧ s.cfg.iFlagDelay = true
        ∧ ∃ i, s.sample.fetch = .ok i
          ∧ (i.mnemonic = .cli ∨ i.mnemonic = .sei ∨ i.mnemonic = .plp))

/-- R217, R220: a step is one event entry or one whole instruction; the only ways a step changes memory, A, X, Y or S are
RESET, an entry, and the instruction fetched at pc. With no input, the instruction at pc runs. -/
def Obligations.StepIsEventOrInstruction : Prop :=
  ∀ s t : State, step s = .next t →
    (s.nextInput.resetLine = true ∧ t.mem = s.mem ∧ t.I = true)
      ∨ (∃ (k : Nat) (vector ret : Word) (u : State), s.nextInput.resetLine = false
        ∧ { s.sample with draws := k }.enter vector false ret = .ok u
        ∧ t = { u with nmiPending := false }
        ∧ (vector = 0xFFFA ∧ ret = s.pc ∧ (s.nmiPending || s.nextInput.nmiEdge) = true
          ∨ vector = 0xFFFE ∧ s.nextInput.irqLine = true
            ∧ (s.I = false ∨ s.iPrev = some false)
            ∧ (ret = s.pc ∨ ret = s.pc + 2 ∧ s.memRead s.pc = .ok 0)))
      ∨ (∃ (k : Nat) (i : Instr) (u : State), s.nextInput.resetLine = false
        ∧ s.sample.fetch = .ok i ∧ exec i { s.sample with draws := k } = .next u
        ∧ t.pc = u.pc ∧ t.mem = u.mem ∧ t.A = u.A ∧ t.X = u.X ∧ t.Y = u.Y ∧ t.S = u.S
        ∧ ∀ f, t.flag f = u.flag f)

/-! ## Timing -/

/-- R271 to R273: the printed count of every form, mnemonic by mnemonic and mode by mode, with one cycle more where
the indexed address of a reading instruction leaves the page of its base, and 2, 3 or 4 for a branch not taken,
taken in its page, taken to another; and R275: every count lies between 2 and 7. Pages are told apart by the
high byte of the address (R89; the spec's general knowledge, log entry 23). -/
def Obligations.CycleCounts : Prop :=
  ∀ (s : State) (i : Instr),
    (∀ n, s.cycles i = .ok n → 2 ≤ n ∧ n ≤ 7)
      ∧ (i.mnemonic ∈ readMnemonics → ReadCycles s i)
      ∧ (i.mnemonic ∈ writeMnemonics → WriteCycles s i)
      ∧ (i.mnemonic ∈ modifyMnemonics → ModifyCycles s i)
      ∧ (i.mode = .imp → i.mnemonic ≠ .brk →
        s.cycles i = .ok
          (if i.mnemonic = .pha ∨ i.mnemonic = .php then 3
          else if i.mnemonic = .pla ∨ i.mnemonic = .plp then 4
          else if i.mnemonic = .rts ∨ i.mnemonic = .rti then 6 else 2))
      ∧ s.cycles .brk = .ok 7
      ∧ (∀ a, s.cycles (.jmpAbs a) = .ok 3 ∧ s.cycles (.jmpInd a) = .ok 5 ∧ s.cycles (.jsr a) = .ok 6)
      ∧ BranchCycles s .bcc (!s.C) ∧ BranchCycles s .bcs s.C
      ∧ BranchCycles s .bne (!s.Z) ∧ BranchCycles s .beq s.Z
      ∧ BranchCycles s .bpl (!s.N) ∧ BranchCycles s .bmi s.N
      ∧ BranchCycles s .bvc (!s.V) ∧ BranchCycles s .bvs s.V
end

