-- ==== Sys2Proof/Laws/Bits.lean ====
section
/-! SUPPORT. The bytes of a word and the word of two bytes. -/

namespace Sys2Proof

@[simp] theorem mkWord_hiByte_loByte (w : Word) : mkWord (hiByte w) (loByte w) = w := by
  unfold mkWord hiByte loByte
  exact (BitVec.extractLsb'_append_extractLsb'_eq_extractLsb' (by omega)).trans (by simp)

@[simp] theorem hiByte_mkWord (hi lo : Byte) : hiByte (mkWord hi lo) = hi := by
  unfold mkWord hiByte
  exact BitVec.extractLsb'_append_eq_left

@[simp] theorem loByte_mkWord (hi lo : Byte) : loByte (mkWord hi lo) = lo := by
  unfold mkWord loByte
  exact BitVec.extractLsb'_append_eq_right

@[simp] theorem zext16_toNat (b : Byte) : (zext16 b).toNat = b.toNat := by
  have := b.isLt
  simp [zext16]
  omega

theorem mkWord_toNat (hi lo : Byte) : (mkWord hi lo).toNat = hi.toNat * 256 + lo.toNat := by
  have := lo.isLt
  unfold mkWord
  rw [BitVec.toNat_append, Nat.shiftLeft_eq, Nat.mul_comm, ← Nat.two_pow_add_eq_or_of_lt this]

theorem mkWord_right_inj {hi lo lo' : Byte} : mkWord hi lo = mkWord hi lo' ↔ lo = lo' :=
  ⟨fun h => by simpa using congrArg loByte h, fun h => h ▸ rfl⟩

theorem byte_beq (a b : Byte) : (a == b) = decide (a = b) := Bool.beq_eq_decide_eq a b

theorem byte_msb (a : Byte) : a.msb = a.getLsbD 7 := by
  simp [BitVec.msb_eq_getLsbD_last]

/-! The stack pointer after successive pulls and pushes. -/

@[simp] theorem byte_add_one_one (x : Byte) : x + 1#8 + 1#8 = x + 2#8 := by bv_omega

@[simp] theorem byte_add_one_two (x : Byte) : x + 1#8 + 2#8 = x + 3#8 := by bv_omega

@[simp] theorem byte_sub_one_one (x : Byte) : x - 1#8 - 1#8 = x - 2#8 := by bv_omega

@[simp] theorem byte_sub_two_one (x : Byte) : x - 2#8 - 1#8 = x - 3#8 := by bv_omega

end Sys2Proof
end

