-- ==== Sys2Proof/Laws/Memory.lean ====
section
/-! SUPPORT. What the list of cells does: a write is read back, leaves every other address alone and
keeps the canonical form. -/

namespace Sys2Proof.Machine

theorem Memory.wfFrom_cons {lo : Nat} {c : Host.Cell} {m : Memory} :
    Memory.wfFrom lo (c :: m) = true ↔
      lo ≤ c.1 ∧ c.1 < Memory.size ∧ c.2 ≠ Memory.unlisted ∧ Memory.wfFrom (c.1 + 1) m = true := by
  simp [Memory.wfFrom, and_assoc]

/-- A form from a higher address is a form from a lower one. -/
theorem Memory.wfFrom_mono {lo lo' : Nat} {m : Memory} (h : Memory.wfFrom lo m = true)
    (hlo : lo' ≤ lo) : Memory.wfFrom lo' m = true := by
  cases m with
  | nil => rfl
  | cons c m =>
    rw [Memory.wfFrom_cons] at *
    exact ⟨by omega, h.2⟩

/-- Below its first address a memory lists nothing. -/
theorem Memory.read_below {lo k : Nat} {m : Memory} (h : Memory.wfFrom lo m = true) (hk : k < lo) :
    Memory.read m k = Memory.unlisted := by
  cases m with
  | nil => rfl
  | cons c m =>
    rw [Memory.wfFrom_cons] at h
    simp [Memory.read, show k < c.1 by omega]

theorem Memory.read_cons_self {k : Nat} {b : Byte} {m : Memory}
    (h : Memory.wfFrom (k + 1) m = true) : Memory.read (Memory.cons k b m) k = b := by
  unfold Memory.cons
  split
  · rw [Memory.read_below h (by omega)]; exact (‹_› : b = _).symm
  · simp [Memory.read]

theorem Memory.read_cons_ne {k j : Nat} {b : Byte} {m : Memory}
    (h : Memory.wfFrom (k + 1) m = true) (hj : j ≠ k) :
    Memory.read (Memory.cons k b m) j = Memory.read m j := by
  unfold Memory.cons
  split
  · rfl
  · rcases Nat.lt_or_gt_of_ne hj with hlt | hgt
    · simp [Memory.read, hlt, Memory.read_below h (show j < k + 1 by omega)]
    · simp [Memory.read, show ¬ j < k by omega, show k ≠ j by omega]

theorem Memory.wfFrom_consCell {lo k : Nat} {b : Byte} {m : Memory} (hlo : lo ≤ k)
    (hk : k < Memory.size) (h : Memory.wfFrom (k + 1) m = true) :
    Memory.wfFrom lo (Memory.cons k b m) = true := by
  unfold Memory.cons
  split
  · exact Memory.wfFrom_mono h (by omega)
  · rw [Memory.wfFrom_cons]; exact ⟨hlo, hk, ‹_›, h⟩

/-- A write keeps the canonical form. -/
theorem Memory.wfFrom_write {lo k : Nat} {b : Byte} {m : Memory} (h : Memory.wfFrom lo m = true)
    (hlo : lo ≤ k) (hk : k < Memory.size) : Memory.wfFrom lo (Memory.write m k b) = true := by
  induction m generalizing lo with
  | nil => exact Memory.wfFrom_consCell hlo hk rfl
  | cons c m ih =>
    rw [Memory.wfFrom_cons] at h
    unfold Memory.write
    split
    · exact Memory.wfFrom_consCell hlo hk (Memory.wfFrom_cons.2 ⟨by omega, h.2⟩)
    · split
      · exact Memory.wfFrom_consCell hlo hk (by simp_all)
      · rw [Memory.wfFrom_cons]
        exact ⟨h.1, h.2.1, h.2.2.1, ih h.2.2.2 (by omega)⟩

theorem Memory.wf_write {k : Nat} {b : Byte} {m : Memory} (h : Memory.wf m = true)
    (hk : k < Memory.size) : Memory.wf (Memory.write m k b) = true :=
  Memory.wfFrom_write h (Nat.zero_le k) hk

theorem Memory.read_write_self_from {lo k : Nat} {b : Byte} {m : Memory}
    (h : Memory.wfFrom lo m = true) : Memory.read (Memory.write m k b) k = b := by
  induction m generalizing lo with
  | nil => exact Memory.read_cons_self rfl
  | cons c m ih =>
    rw [Memory.wfFrom_cons] at h
    unfold Memory.write
    split
    · exact Memory.read_cons_self (Memory.wfFrom_cons.2 ⟨by omega, h.2⟩)
    · split
      · exact Memory.read_cons_self (by simp_all)
      · simp [Memory.read, *]
        exact ih h.2.2.2

theorem Memory.read_write_ne_from {lo k j : Nat} {b : Byte} {m : Memory}
    (h : Memory.wfFrom lo m = true) (hj : j ≠ k) :
    Memory.read (Memory.write m k b) j = Memory.read m j := by
  induction m generalizing lo with
  | nil => exact Memory.read_cons_ne rfl hj
  | cons c m ih =>
    rw [Memory.wfFrom_cons] at h
    unfold Memory.write
    split
    · exact Memory.read_cons_ne (Memory.wfFrom_cons.2 ⟨by omega, h.2⟩) hj
    · split
      · rename_i h1 h2
        subst h2
        rw [Memory.read_cons_ne h.2.2.2 hj, Memory.read]
        split
        · exact Memory.read_below h.2.2.2 (by omega)
        · simp [Ne.symm hj]
      · simp only [Memory.read, ih h.2.2.2]

/-- A write is read back. -/
theorem Memory.read_write_self {k : Nat} {b : Byte} {m : Memory} (h : Memory.wf m = true) :
    Memory.read (Memory.write m k b) k = b := Memory.read_write_self_from h

/-- A write leaves every other address alone. -/
theorem Memory.read_write_ne {k j : Nat} {b : Byte} {m : Memory} (h : Memory.wf m = true)
    (hj : j ≠ k) : Memory.read (Memory.write m k b) j = Memory.read m j :=
  Memory.read_write_ne_from h hj

end Sys2Proof.Machine
end

