-- ==== Sys2Proof/Laws/State.lean ====
section
/-! SUPPORT. One lemma per field per update of the state, all true by unfolding. -/

namespace Sys2Proof.Machine

section
variable (s : State) (v : Byte)

@[simp] theorem State.setA_A : (s.setA v).A = v := rfl
@[simp] theorem State.setA_X : (s.setA v).X = s.X := rfl
@[simp] theorem State.setA_Y : (s.setA v).Y = s.Y := rfl
@[simp] theorem State.setA_S : (s.setA v).S = s.S := rfl
@[simp] theorem State.setA_pc : (s.setA v).pc = s.pc := rfl
@[simp] theorem State.setA_N : (s.setA v).N = s.N := rfl
@[simp] theorem State.setA_V : (s.setA v).V = s.V := rfl
@[simp] theorem State.setA_D : (s.setA v).D = s.D := rfl
@[simp] theorem State.setA_I : (s.setA v).I = s.I := rfl
@[simp] theorem State.setA_Z : (s.setA v).Z = s.Z := rfl
@[simp] theorem State.setA_C : (s.setA v).C = s.C := rfl
@[simp] theorem State.setA_mem : (s.setA v).mem = s.mem := rfl
@[simp] theorem State.setA_nmiPending : (s.setA v).nmiPending = s.nmiPending := rfl
@[simp] theorem State.setA_iPrev : (s.setA v).iPrev = s.iPrev := rfl
@[simp] theorem State.setA_cfg : (s.setA v).cfg = s.cfg := rfl
@[simp] theorem State.setA_inputs : (s.setA v).inputs = s.inputs := rfl
@[simp] theorem State.setA_draws : (s.setA v).draws = s.draws := rfl
@[simp] theorem State.setA_peek (a : Word) : (s.setA v).peek a = s.peek a := rfl
@[simp] theorem State.setA_kindAt (a : Word) : (s.setA v).kindAt a = s.kindAt a := rfl

end

section
variable (s : State) (v : Byte)

@[simp] theorem State.setX_A : (s.setX v).A = s.A := rfl
@[simp] theorem State.setX_X : (s.setX v).X = v := rfl
@[simp] theorem State.setX_Y : (s.setX v).Y = s.Y := rfl
@[simp] theorem State.setX_S : (s.setX v).S = s.S := rfl
@[simp] theorem State.setX_pc : (s.setX v).pc = s.pc := rfl
@[simp] theorem State.setX_N : (s.setX v).N = s.N := rfl
@[simp] theorem State.setX_V : (s.setX v).V = s.V := rfl
@[simp] theorem State.setX_D : (s.setX v).D = s.D := rfl
@[simp] theorem State.setX_I : (s.setX v).I = s.I := rfl
@[simp] theorem State.setX_Z : (s.setX v).Z = s.Z := rfl
@[simp] theorem State.setX_C : (s.setX v).C = s.C := rfl
@[simp] theorem State.setX_mem : (s.setX v).mem = s.mem := rfl
@[simp] theorem State.setX_nmiPending : (s.setX v).nmiPending = s.nmiPending := rfl
@[simp] theorem State.setX_iPrev : (s.setX v).iPrev = s.iPrev := rfl
@[simp] theorem State.setX_cfg : (s.setX v).cfg = s.cfg := rfl
@[simp] theorem State.setX_inputs : (s.setX v).inputs = s.inputs := rfl
@[simp] theorem State.setX_draws : (s.setX v).draws = s.draws := rfl
@[simp] theorem State.setX_peek (a : Word) : (s.setX v).peek a = s.peek a := rfl
@[simp] theorem State.setX_kindAt (a : Word) : (s.setX v).kindAt a = s.kindAt a := rfl

end

section
variable (s : State) (v : Byte)

@[simp] theorem State.setY_A : (s.setY v).A = s.A := rfl
@[simp] theorem State.setY_X : (s.setY v).X = s.X := rfl
@[simp] theorem State.setY_Y : (s.setY v).Y = v := rfl
@[simp] theorem State.setY_S : (s.setY v).S = s.S := rfl
@[simp] theorem State.setY_pc : (s.setY v).pc = s.pc := rfl
@[simp] theorem State.setY_N : (s.setY v).N = s.N := rfl
@[simp] theorem State.setY_V : (s.setY v).V = s.V := rfl
@[simp] theorem State.setY_D : (s.setY v).D = s.D := rfl
@[simp] theorem State.setY_I : (s.setY v).I = s.I := rfl
@[simp] theorem State.setY_Z : (s.setY v).Z = s.Z := rfl
@[simp] theorem State.setY_C : (s.setY v).C = s.C := rfl
@[simp] theorem State.setY_mem : (s.setY v).mem = s.mem := rfl
@[simp] theorem State.setY_nmiPending : (s.setY v).nmiPending = s.nmiPending := rfl
@[simp] theorem State.setY_iPrev : (s.setY v).iPrev = s.iPrev := rfl
@[simp] theorem State.setY_cfg : (s.setY v).cfg = s.cfg := rfl
@[simp] theorem State.setY_inputs : (s.setY v).inputs = s.inputs := rfl
@[simp] theorem State.setY_draws : (s.setY v).draws = s.draws := rfl
@[simp] theorem State.setY_peek (a : Word) : (s.setY v).peek a = s.peek a := rfl
@[simp] theorem State.setY_kindAt (a : Word) : (s.setY v).kindAt a = s.kindAt a := rfl

end

section
variable (s : State) (v : Byte)

@[simp] theorem State.setS_A : (s.setS v).A = s.A := rfl
@[simp] theorem State.setS_X : (s.setS v).X = s.X := rfl
@[simp] theorem State.setS_Y : (s.setS v).Y = s.Y := rfl
@[simp] theorem State.setS_S : (s.setS v).S = v := rfl
@[simp] theorem State.setS_pc : (s.setS v).pc = s.pc := rfl
@[simp] theorem State.setS_N : (s.setS v).N = s.N := rfl
@[simp] theorem State.setS_V : (s.setS v).V = s.V := rfl
@[simp] theorem State.setS_D : (s.setS v).D = s.D := rfl
@[simp] theorem State.setS_I : (s.setS v).I = s.I := rfl
@[simp] theorem State.setS_Z : (s.setS v).Z = s.Z := rfl
@[simp] theorem State.setS_C : (s.setS v).C = s.C := rfl
@[simp] theorem State.setS_mem : (s.setS v).mem = s.mem := rfl
@[simp] theorem State.setS_nmiPending : (s.setS v).nmiPending = s.nmiPending := rfl
@[simp] theorem State.setS_iPrev : (s.setS v).iPrev = s.iPrev := rfl
@[simp] theorem State.setS_cfg : (s.setS v).cfg = s.cfg := rfl
@[simp] theorem State.setS_inputs : (s.setS v).inputs = s.inputs := rfl
@[simp] theorem State.setS_draws : (s.setS v).draws = s.draws := rfl
@[simp] theorem State.setS_peek (a : Word) : (s.setS v).peek a = s.peek a := rfl
@[simp] theorem State.setS_kindAt (a : Word) : (s.setS v).kindAt a = s.kindAt a := rfl

end

section
variable (s : State) (v : Word)

@[simp] theorem State.setPc_A : (s.setPc v).A = s.A := rfl
@[simp] theorem State.setPc_X : (s.setPc v).X = s.X := rfl
@[simp] theorem State.setPc_Y : (s.setPc v).Y = s.Y := rfl
@[simp] theorem State.setPc_S : (s.setPc v).S = s.S := rfl
@[simp] theorem State.setPc_pc : (s.setPc v).pc = v := rfl
@[simp] theorem State.setPc_N : (s.setPc v).N = s.N := rfl
@[simp] theorem State.setPc_V : (s.setPc v).V = s.V := rfl
@[simp] theorem State.setPc_D : (s.setPc v).D = s.D := rfl
@[simp] theorem State.setPc_I : (s.setPc v).I = s.I := rfl
@[simp] theorem State.setPc_Z : (s.setPc v).Z = s.Z := rfl
@[simp] theorem State.setPc_C : (s.setPc v).C = s.C := rfl
@[simp] theorem State.setPc_mem : (s.setPc v).mem = s.mem := rfl
@[simp] theorem State.setPc_nmiPending : (s.setPc v).nmiPending = s.nmiPending := rfl
@[simp] theorem State.setPc_iPrev : (s.setPc v).iPrev = s.iPrev := rfl
@[simp] theorem State.setPc_cfg : (s.setPc v).cfg = s.cfg := rfl
@[simp] theorem State.setPc_inputs : (s.setPc v).inputs = s.inputs := rfl
@[simp] theorem State.setPc_draws : (s.setPc v).draws = s.draws := rfl
@[simp] theorem State.setPc_peek (a : Word) : (s.setPc v).peek a = s.peek a := rfl
@[simp] theorem State.setPc_kindAt (a : Word) : (s.setPc v).kindAt a = s.kindAt a := rfl

end

section
variable (s : State) (v : Bool)

@[simp] theorem State.setC_A : (s.setC v).A = s.A := rfl
@[simp] theorem State.setC_X : (s.setC v).X = s.X := rfl
@[simp] theorem State.setC_Y : (s.setC v).Y = s.Y := rfl
@[simp] theorem State.setC_S : (s.setC v).S = s.S := rfl
@[simp] theorem State.setC_pc : (s.setC v).pc = s.pc := rfl
@[simp] theorem State.setC_N : (s.setC v).N = s.N := rfl
@[simp] theorem State.setC_V : (s.setC v).V = s.V := rfl
@[simp] theorem State.setC_D : (s.setC v).D = s.D := rfl
@[simp] theorem State.setC_I : (s.setC v).I = s.I := rfl
@[simp] theorem State.setC_Z : (s.setC v).Z = s.Z := rfl
@[simp] theorem State.setC_C : (s.setC v).C = v := rfl
@[simp] theorem State.setC_mem : (s.setC v).mem = s.mem := rfl
@[simp] theorem State.setC_nmiPending : (s.setC v).nmiPending = s.nmiPending := rfl
@[simp] theorem State.setC_iPrev : (s.setC v).iPrev = s.iPrev := rfl
@[simp] theorem State.setC_cfg : (s.setC v).cfg = s.cfg := rfl
@[simp] theorem State.setC_inputs : (s.setC v).inputs = s.inputs := rfl
@[simp] theorem State.setC_draws : (s.setC v).draws = s.draws := rfl
@[simp] theorem State.setC_peek (a : Word) : (s.setC v).peek a = s.peek a := rfl
@[simp] theorem State.setC_kindAt (a : Word) : (s.setC v).kindAt a = s.kindAt a := rfl

end

section
variable (s : State) (v : Bool)

@[simp] theorem State.setV_A : (s.setV v).A = s.A := rfl
@[simp] theorem State.setV_X : (s.setV v).X = s.X := rfl
@[simp] theorem State.setV_Y : (s.setV v).Y = s.Y := rfl
@[simp] theorem State.setV_S : (s.setV v).S = s.S := rfl
@[simp] theorem State.setV_pc : (s.setV v).pc = s.pc := rfl
@[simp] theorem State.setV_N : (s.setV v).N = s.N := rfl
@[simp] theorem State.setV_V : (s.setV v).V = v := rfl
@[simp] theorem State.setV_D : (s.setV v).D = s.D := rfl
@[simp] theorem State.setV_I : (s.setV v).I = s.I := rfl
@[simp] theorem State.setV_Z : (s.setV v).Z = s.Z := rfl
@[simp] theorem State.setV_C : (s.setV v).C = s.C := rfl
@[simp] theorem State.setV_mem : (s.setV v).mem = s.mem := rfl
@[simp] theorem State.setV_nmiPending : (s.setV v).nmiPending = s.nmiPending := rfl
@[simp] theorem State.setV_iPrev : (s.setV v).iPrev = s.iPrev := rfl
@[simp] theorem State.setV_cfg : (s.setV v).cfg = s.cfg := rfl
@[simp] theorem State.setV_inputs : (s.setV v).inputs = s.inputs := rfl
@[simp] theorem State.setV_draws : (s.setV v).draws = s.draws := rfl
@[simp] theorem State.setV_peek (a : Word) : (s.setV v).peek a = s.peek a := rfl
@[simp] theorem State.setV_kindAt (a : Word) : (s.setV v).kindAt a = s.kindAt a := rfl

end

section
variable (s : State) (v : Bool)

@[simp] theorem State.setD_A : (s.setD v).A = s.A := rfl
@[simp] theorem State.setD_X : (s.setD v).X = s.X := rfl
@[simp] theorem State.setD_Y : (s.setD v).Y = s.Y := rfl
@[simp] theorem State.setD_S : (s.setD v).S = s.S := rfl
@[simp] theorem State.setD_pc : (s.setD v).pc = s.pc := rfl
@[simp] theorem State.setD_N : (s.setD v).N = s.N := rfl
@[simp] theorem State.setD_V : (s.setD v).V = s.V := rfl
@[simp] theorem State.setD_D : (s.setD v).D = v := rfl
@[simp] theorem State.setD_I : (s.setD v).I = s.I := rfl
@[simp] theorem State.setD_Z : (s.setD v).Z = s.Z := rfl
@[simp] theorem State.setD_C : (s.setD v).C = s.C := rfl
@[simp] theorem State.setD_mem : (s.setD v).mem = s.mem := rfl
@[simp] theorem State.setD_nmiPending : (s.setD v).nmiPending = s.nmiPending := rfl
@[simp] theorem State.setD_iPrev : (s.setD v).iPrev = s.iPrev := rfl
@[simp] theorem State.setD_cfg : (s.setD v).cfg = s.cfg := rfl
@[simp] theorem State.setD_inputs : (s.setD v).inputs = s.inputs := rfl
@[simp] theorem State.setD_draws : (s.setD v).draws = s.draws := rfl
@[simp] theorem State.setD_peek (a : Word) : (s.setD v).peek a = s.peek a := rfl
@[simp] theorem State.setD_kindAt (a : Word) : (s.setD v).kindAt a = s.kindAt a := rfl

end

section
variable (s : State) (v : Bool)

@[simp] theorem State.setI_A : (s.setI v).A = s.A := rfl
@[simp] theorem State.setI_X : (s.setI v).X = s.X := rfl
@[simp] theorem State.setI_Y : (s.setI v).Y = s.Y := rfl
@[simp] theorem State.setI_S : (s.setI v).S = s.S := rfl
@[simp] theorem State.setI_pc : (s.setI v).pc = s.pc := rfl
@[simp] theorem State.setI_N : (s.setI v).N = s.N := rfl
@[simp] theorem State.setI_V : (s.setI v).V = s.V := rfl
@[simp] theorem State.setI_D : (s.setI v).D = s.D := rfl
@[simp] theorem State.setI_I : (s.setI v).I = v := rfl
@[simp] theorem State.setI_Z : (s.setI v).Z = s.Z := rfl
@[simp] theorem State.setI_C : (s.setI v).C = s.C := rfl
@[simp] theorem State.setI_mem : (s.setI v).mem = s.mem := rfl
@[simp] theorem State.setI_nmiPending : (s.setI v).nmiPending = s.nmiPending := rfl
@[simp] theorem State.setI_iPrev : (s.setI v).iPrev = s.iPrev := rfl
@[simp] theorem State.setI_cfg : (s.setI v).cfg = s.cfg := rfl
@[simp] theorem State.setI_inputs : (s.setI v).inputs = s.inputs := rfl
@[simp] theorem State.setI_draws : (s.setI v).draws = s.draws := rfl
@[simp] theorem State.setI_peek (a : Word) : (s.setI v).peek a = s.peek a := rfl
@[simp] theorem State.setI_kindAt (a : Word) : (s.setI v).kindAt a = s.kindAt a := rfl

end

section
variable (s : State) (v : Byte)

@[simp] theorem State.setNZ_A : (s.setNZ v).A = s.A := rfl
@[simp] theorem State.setNZ_X : (s.setNZ v).X = s.X := rfl
@[simp] theorem State.setNZ_Y : (s.setNZ v).Y = s.Y := rfl
@[simp] theorem State.setNZ_S : (s.setNZ v).S = s.S := rfl
@[simp] theorem State.setNZ_pc : (s.setNZ v).pc = s.pc := rfl
@[simp] theorem State.setNZ_N : (s.setNZ v).N = v.msb := rfl
@[simp] theorem State.setNZ_V : (s.setNZ v).V = s.V := rfl
@[simp] theorem State.setNZ_D : (s.setNZ v).D = s.D := rfl
@[simp] theorem State.setNZ_I : (s.setNZ v).I = s.I := rfl
@[simp] theorem State.setNZ_Z : (s.setNZ v).Z = (v == 0) := rfl
@[simp] theorem State.setNZ_C : (s.setNZ v).C = s.C := rfl
@[simp] theorem State.setNZ_mem : (s.setNZ v).mem = s.mem := rfl
@[simp] theorem State.setNZ_nmiPending : (s.setNZ v).nmiPending = s.nmiPending := rfl
@[simp] theorem State.setNZ_iPrev : (s.setNZ v).iPrev = s.iPrev := rfl
@[simp] theorem State.setNZ_cfg : (s.setNZ v).cfg = s.cfg := rfl
@[simp] theorem State.setNZ_inputs : (s.setNZ v).inputs = s.inputs := rfl
@[simp] theorem State.setNZ_draws : (s.setNZ v).draws = s.draws := rfl
@[simp] theorem State.setNZ_peek (a : Word) : (s.setNZ v).peek a = s.peek a := rfl
@[simp] theorem State.setNZ_kindAt (a : Word) : (s.setNZ v).kindAt a = s.kindAt a := rfl

end

section
variable (s : State) (n : Word)

@[simp] theorem State.advance_A : (s.advance n).A = s.A := rfl
@[simp] theorem State.advance_X : (s.advance n).X = s.X := rfl
@[simp] theorem State.advance_Y : (s.advance n).Y = s.Y := rfl
@[simp] theorem State.advance_S : (s.advance n).S = s.S := rfl
@[simp] theorem State.advance_pc : (s.advance n).pc = s.pc + n := rfl
@[simp] theorem State.advance_N : (s.advance n).N = s.N := rfl
@[simp] theorem State.advance_V : (s.advance n).V = s.V := rfl
@[simp] theorem State.advance_D : (s.advance n).D = s.D := rfl
@[simp] theorem State.advance_I : (s.advance n).I = s.I := rfl
@[simp] theorem State.advance_Z : (s.advance n).Z = s.Z := rfl
@[simp] theorem State.advance_C : (s.advance n).C = s.C := rfl
@[simp] theorem State.advance_mem : (s.advance n).mem = s.mem := rfl
@[simp] theorem State.advance_nmiPending : (s.advance n).nmiPending = s.nmiPending := rfl
@[simp] theorem State.advance_iPrev : (s.advance n).iPrev = s.iPrev := rfl
@[simp] theorem State.advance_cfg : (s.advance n).cfg = s.cfg := rfl
@[simp] theorem State.advance_inputs : (s.advance n).inputs = s.inputs := rfl
@[simp] theorem State.advance_draws : (s.advance n).draws = s.draws := rfl
@[simp] theorem State.advance_peek (a : Word) : (s.advance n).peek a = s.peek a := rfl
@[simp] theorem State.advance_kindAt (a : Word) : (s.advance n).kindAt a = s.kindAt a := rfl

end

section
variable (s : State) (v : Byte)

@[simp] theorem State.setP_A : (s.setP v).A = s.A := rfl
@[simp] theorem State.setP_X : (s.setP v).X = s.X := rfl
@[simp] theorem State.setP_Y : (s.setP v).Y = s.Y := rfl
@[simp] theorem State.setP_S : (s.setP v).S = s.S := rfl
@[simp] theorem State.setP_pc : (s.setP v).pc = s.pc := rfl
@[simp] theorem State.setP_N : (s.setP v).N = v.getLsbD 7 := rfl
@[simp] theorem State.setP_V : (s.setP v).V = v.getLsbD 6 := rfl
@[simp] theorem State.setP_D : (s.setP v).D = v.getLsbD 3 := rfl
@[simp] theorem State.setP_I : (s.setP v).I = v.getLsbD 2 := rfl
@[simp] theorem State.setP_Z : (s.setP v).Z = v.getLsbD 1 := rfl
@[simp] theorem State.setP_C : (s.setP v).C = v.getLsbD 0 := rfl
@[simp] theorem State.setP_mem : (s.setP v).mem = s.mem := rfl
@[simp] theorem State.setP_nmiPending : (s.setP v).nmiPending = s.nmiPending := rfl
@[simp] theorem State.setP_iPrev : (s.setP v).iPrev = s.iPrev := rfl
@[simp] theorem State.setP_cfg : (s.setP v).cfg = s.cfg := rfl
@[simp] theorem State.setP_inputs : (s.setP v).inputs = s.inputs := rfl
@[simp] theorem State.setP_draws : (s.setP v).draws = s.draws := rfl
@[simp] theorem State.setP_peek (a : Word) : (s.setP v).peek a = s.peek a := rfl
@[simp] theorem State.setP_kindAt (a : Word) : (s.setP v).kindAt a = s.kindAt a := rfl

end

section
variable (s : State) (r : AluResult)

@[simp] theorem State.setAlu_A : (s.setAlu r).A = r.value := rfl
@[simp] theorem State.setAlu_X : (s.setAlu r).X = s.X := rfl
@[simp] theorem State.setAlu_Y : (s.setAlu r).Y = s.Y := rfl
@[simp] theorem State.setAlu_S : (s.setAlu r).S = s.S := rfl
@[simp] theorem State.setAlu_pc : (s.setAlu r).pc = s.pc := rfl
@[simp] theorem State.setAlu_N : (s.setAlu r).N = r.n := rfl
@[simp] theorem State.setAlu_V : (s.setAlu r).V = r.v := rfl
@[simp] theorem State.setAlu_D : (s.setAlu r).D = s.D := rfl
@[simp] theorem State.setAlu_I : (s.setAlu r).I = s.I := rfl
@[simp] theorem State.setAlu_Z : (s.setAlu r).Z = r.z := rfl
@[simp] theorem State.setAlu_C : (s.setAlu r).C = r.c := rfl
@[simp] theorem State.setAlu_mem : (s.setAlu r).mem = s.mem := rfl
@[simp] theorem State.setAlu_nmiPending : (s.setAlu r).nmiPending = s.nmiPending := rfl
@[simp] theorem State.setAlu_iPrev : (s.setAlu r).iPrev = s.iPrev := rfl
@[simp] theorem State.setAlu_cfg : (s.setAlu r).cfg = s.cfg := rfl
@[simp] theorem State.setAlu_inputs : (s.setAlu r).inputs = s.inputs := rfl
@[simp] theorem State.setAlu_draws : (s.setAlu r).draws = s.draws := rfl
@[simp] theorem State.setAlu_peek (a : Word) : (s.setAlu r).peek a = s.peek a := rfl
@[simp] theorem State.setAlu_kindAt (a : Word) : (s.setAlu r).kindAt a = s.kindAt a := rfl

end

section
variable (s : State) (r : ShiftResult)

@[simp] theorem State.setShift_A : (s.setShift r).A = s.A := rfl
@[simp] theorem State.setShift_X : (s.setShift r).X = s.X := rfl
@[simp] theorem State.setShift_Y : (s.setShift r).Y = s.Y := rfl
@[simp] theorem State.setShift_S : (s.setShift r).S = s.S := rfl
@[simp] theorem State.setShift_pc : (s.setShift r).pc = s.pc := rfl
@[simp] theorem State.setShift_N : (s.setShift r).N = r.value.msb := rfl
@[simp] theorem State.setShift_V : (s.setShift r).V = s.V := rfl
@[simp] theorem State.setShift_D : (s.setShift r).D = s.D := rfl
@[simp] theorem State.setShift_I : (s.setShift r).I = s.I := rfl
@[simp] theorem State.setShift_Z : (s.setShift r).Z = (r.value == 0) := rfl
@[simp] theorem State.setShift_C : (s.setShift r).C = r.carry := rfl
@[simp] theorem State.setShift_mem : (s.setShift r).mem = s.mem := rfl
@[simp] theorem State.setShift_nmiPending : (s.setShift r).nmiPending = s.nmiPending := rfl
@[simp] theorem State.setShift_iPrev : (s.setShift r).iPrev = s.iPrev := rfl
@[simp] theorem State.setShift_cfg : (s.setShift r).cfg = s.cfg := rfl
@[simp] theorem State.setShift_inputs : (s.setShift r).inputs = s.inputs := rfl
@[simp] theorem State.setShift_draws : (s.setShift r).draws = s.draws := rfl
@[simp] theorem State.setShift_peek (a : Word) : (s.setShift r).peek a = s.peek a := rfl
@[simp] theorem State.setShift_kindAt (a : Word) : (s.setShift r).kindAt a = s.kindAt a := rfl

end

section
variable (s : State) (m : Byte)

@[simp] theorem State.setBitTest_A : (s.setBitTest m).A = s.A := rfl
@[simp] theorem State.setBitTest_X : (s.setBitTest m).X = s.X := rfl
@[simp] theorem State.setBitTest_Y : (s.setBitTest m).Y = s.Y := rfl
@[simp] theorem State.setBitTest_S : (s.setBitTest m).S = s.S := rfl
@[simp] theorem State.setBitTest_pc : (s.setBitTest m).pc = s.pc := rfl
@[simp] theorem State.setBitTest_N : (s.setBitTest m).N = m.getLsbD 7 := rfl
@[simp] theorem State.setBitTest_V : (s.setBitTest m).V = m.getLsbD 6 := rfl
@[simp] theorem State.setBitTest_D : (s.setBitTest m).D = s.D := rfl
@[simp] theorem State.setBitTest_I : (s.setBitTest m).I = s.I := rfl
@[simp] theorem State.setBitTest_Z : (s.setBitTest m).Z = ((s.A &&& m) == 0) := rfl
@[simp] theorem State.setBitTest_C : (s.setBitTest m).C = s.C := rfl
@[simp] theorem State.setBitTest_mem : (s.setBitTest m).mem = s.mem := rfl
@[simp] theorem State.setBitTest_nmiPending : (s.setBitTest m).nmiPending = s.nmiPending := rfl
@[simp] theorem State.setBitTest_iPrev : (s.setBitTest m).iPrev = s.iPrev := rfl
@[simp] theorem State.setBitTest_cfg : (s.setBitTest m).cfg = s.cfg := rfl
@[simp] theorem State.setBitTest_inputs : (s.setBitTest m).inputs = s.inputs := rfl
@[simp] theorem State.setBitTest_draws : (s.setBitTest m).draws = s.draws := rfl
@[simp] theorem State.setBitTest_peek (a : Word) : (s.setBitTest m).peek a = s.peek a := rfl
@[simp] theorem State.setBitTest_kindAt (a : Word) : (s.setBitTest m).kindAt a = s.kindAt a := rfl

end

section
variable (s : State) (r m : Byte)

@[simp] theorem State.setCompare_A : (s.setCompare r m).A = s.A := rfl
@[simp] theorem State.setCompare_X : (s.setCompare r m).X = s.X := rfl
@[simp] theorem State.setCompare_Y : (s.setCompare r m).Y = s.Y := rfl
@[simp] theorem State.setCompare_S : (s.setCompare r m).S = s.S := rfl
@[simp] theorem State.setCompare_pc : (s.setCompare r m).pc = s.pc := rfl
@[simp] theorem State.setCompare_N : (s.setCompare r m).N = (r - m).msb := rfl
@[simp] theorem State.setCompare_V : (s.setCompare r m).V = s.V := rfl
@[simp] theorem State.setCompare_D : (s.setCompare r m).D = s.D := rfl
@[simp] theorem State.setCompare_I : (s.setCompare r m).I = s.I := rfl
@[simp] theorem State.setCompare_Z : (s.setCompare r m).Z = (r == m) := rfl
@[simp] theorem State.setCompare_C : (s.setCompare r m).C = decide (r.toNat ≥ m.toNat) := rfl
@[simp] theorem State.setCompare_mem : (s.setCompare r m).mem = s.mem := rfl
@[simp] theorem State.setCompare_nmiPending : (s.setCompare r m).nmiPending = s.nmiPending := rfl
@[simp] theorem State.setCompare_iPrev : (s.setCompare r m).iPrev = s.iPrev := rfl
@[simp] theorem State.setCompare_cfg : (s.setCompare r m).cfg = s.cfg := rfl
@[simp] theorem State.setCompare_inputs : (s.setCompare r m).inputs = s.inputs := rfl
@[simp] theorem State.setCompare_draws : (s.setCompare r m).draws = s.draws := rfl

end

end Sys2Proof.Machine
end

