-- ==== Sys2Proof/Laws/Ops.lean ====
section
/-! SUPPORT. What each shared operation can do, once each. -/

namespace Sys2Proof.Machine

/-! ## Computations that may stop -/

theorem finish_next_iff {r : Access State} {t : State} : finish r = .next t ↔ r = .ok t := by
  cases r with
  | ok u => simp [finish]
  | error e => simp [finish]

@[simp] theorem finish_ok (t : State) : finish (.ok t) = .next t := rfl

@[simp] theorem finish_error (e : Refusal) : finish (.error e) = .refused e := rfl

theorem bind_eq_ok {α β : Type} {x : Access α} {f : α → Access β} {r : β} :
    x >>= f = .ok r ↔ ∃ a, x = .ok a ∧ f a = .ok r := by
  cases x with
  | ok a =>
    constructor
    · exact fun h => ⟨a, rfl, h⟩
    · rintro ⟨b, hb, h⟩
      cases hb
      exact h
  | error e =>
    constructor
    · intro h
      cases h
    · rintro ⟨b, hb, h⟩
      cases hb

theorem bind_eq_error {α β : Type} {x : Access α} {f : α → Access β} {e : Refusal} :
    x >>= f = .error e ↔ x = .error e ∨ ∃ a, x = .ok a ∧ f a = .error e := by
  cases x with
  | ok a =>
    constructor
    · exact fun h => .inr ⟨a, rfl, h⟩
    · rintro (h | ⟨b, hb, h⟩)
      · cases h
      · cases hb
        exact h
  | error d =>
    constructor
    · intro h
      cases h
      exact .inl rfl
    · rintro (h | ⟨b, hb, h⟩)
      · cases h
        rfl
      · cases hb

@[simp] theorem ok_bind {α β : Type} (a : α) (f : α → Access β) :
    ((.ok a : Access α) >>= f) = f a := rfl

@[simp] theorem error_bind {α β : Type} (e : Refusal) (f : α → Access β) :
    ((.error e : Access α) >>= f) = .error e := rfl

/-! ## Accessibility depends on the platform alone -/

@[simp] theorem State.setA_accessible (s : State) (v : Byte) (a : Word) :
    (s.setA v).accessible a = s.accessible a := rfl
@[simp] theorem State.setX_accessible (s : State) (v : Byte) (a : Word) :
    (s.setX v).accessible a = s.accessible a := rfl
@[simp] theorem State.setY_accessible (s : State) (v : Byte) (a : Word) :
    (s.setY v).accessible a = s.accessible a := rfl
@[simp] theorem State.setS_accessible (s : State) (v : Byte) (a : Word) :
    (s.setS v).accessible a = s.accessible a := rfl
@[simp] theorem State.setPc_accessible (s : State) (v : Word) (a : Word) :
    (s.setPc v).accessible a = s.accessible a := rfl
@[simp] theorem State.setC_accessible (s : State) (v : Bool) (a : Word) :
    (s.setC v).accessible a = s.accessible a := rfl
@[simp] theorem State.setV_accessible (s : State) (v : Bool) (a : Word) :
    (s.setV v).accessible a = s.accessible a := rfl
@[simp] theorem State.setD_accessible (s : State) (v : Bool) (a : Word) :
    (s.setD v).accessible a = s.accessible a := rfl
@[simp] theorem State.setI_accessible (s : State) (v : Bool) (a : Word) :
    (s.setI v).accessible a = s.accessible a := rfl
@[simp] theorem State.setNZ_accessible (s : State) (v : Byte) (a : Word) :
    (s.setNZ v).accessible a = s.accessible a := rfl
@[simp] theorem State.setP_accessible (s : State) (v : Byte) (a : Word) :
    (s.setP v).accessible a = s.accessible a := rfl
@[simp] theorem State.advance_accessible (s : State) (v : Word) (a : Word) :
    (s.advance v).accessible a = s.accessible a := rfl

/-! ## Memory -/

theorem memRead_of_accessible {s : State} {a : Word} (h : s.accessible a) :
    s.memRead a = .ok (s.peek a) := by
  rcases h with h | h <;> simp [State.memRead, h]

theorem memRead_ok_iff {s : State} {a : Word} {v : Byte} :
    s.memRead a = .ok v ↔ s.accessible a ∧ v = s.peek a := by
  constructor
  · intro h
    cases hk : s.kindAt a <;> simp [State.memRead, hk] at h
    · exact ⟨.inl hk, h.symm⟩
    · exact ⟨.inr hk, h.symm⟩
  · rintro ⟨h, rfl⟩
    exact memRead_of_accessible h

/-- An access stops only where the map has no RAM or ROM, and names the address. -/
theorem memRead_error {s : State} {a : Word} {e : Refusal} (h : s.memRead a = .error e) :
    (s.kindAt a = .unmapped ∨ s.kindAt a = .device) ∧ e = .unmapped a := by
  cases hk : s.kindAt a <;> simp [State.memRead, hk] at h
  · exact ⟨.inr rfl, h.symm⟩
  · exact ⟨.inl rfl, h.symm⟩

theorem memWrite_of_accessible {s : State} {a : Word} {v : Byte} (h : s.accessible a) :
    s.memWrite a v = .ok (s.stored a v) := by
  rcases h with h | h <;> simp [State.memWrite, State.stored, h]

theorem memWrite_ok_iff {s t : State} {a : Word} {v : Byte} :
    s.memWrite a v = .ok t ↔ s.accessible a ∧ t = s.stored a v := by
  constructor
  · intro h
    cases hk : s.kindAt a <;> simp [State.memWrite, hk] at h
    · exact ⟨.inl hk, by simp [State.stored, hk, ← h]⟩
    · exact ⟨.inr hk, by simp [State.stored, hk, ← h]⟩
  · rintro ⟨h, rfl⟩
    exact memWrite_of_accessible h

theorem memWrite_error {s : State} {a : Word} {v : Byte} {e : Refusal}
    (h : s.memWrite a v = .error e) :
    (s.kindAt a = .unmapped ∨ s.kindAt a = .device) ∧ e = .unmapped a := by
  cases hk : s.kindAt a <;> simp [State.memWrite, hk] at h
  · exact ⟨.inr rfl, h.symm⟩
  · exact ⟨.inl rfl, h.symm⟩

section
variable (s : State) (a : Word) (v : Byte)

@[simp] theorem State.stored_A : (s.stored a v).A = s.A := rfl
@[simp] theorem State.stored_X : (s.stored a v).X = s.X := rfl
@[simp] theorem State.stored_Y : (s.stored a v).Y = s.Y := rfl
@[simp] theorem State.stored_S : (s.stored a v).S = s.S := rfl
@[simp] theorem State.stored_pc : (s.stored a v).pc = s.pc := rfl
@[simp] theorem State.stored_N : (s.stored a v).N = s.N := rfl
@[simp] theorem State.stored_V : (s.stored a v).V = s.V := rfl
@[simp] theorem State.stored_D : (s.stored a v).D = s.D := rfl
@[simp] theorem State.stored_I : (s.stored a v).I = s.I := rfl
@[simp] theorem State.stored_Z : (s.stored a v).Z = s.Z := rfl
@[simp] theorem State.stored_C : (s.stored a v).C = s.C := rfl
@[simp] theorem State.stored_nmiPending : (s.stored a v).nmiPending = s.nmiPending := rfl
@[simp] theorem State.stored_iPrev : (s.stored a v).iPrev = s.iPrev := rfl
@[simp] theorem State.stored_cfg : (s.stored a v).cfg = s.cfg := rfl
@[simp] theorem State.stored_inputs : (s.stored a v).inputs = s.inputs := rfl
@[simp] theorem State.stored_draws : (s.stored a v).draws = s.draws := rfl
@[simp] theorem State.stored_kindAt (b : Word) : (s.stored a v).kindAt b = s.kindAt b := rfl
@[simp] theorem State.stored_accessible (b : Word) :
    (s.stored a v).accessible b = s.accessible b := rfl
@[simp] theorem State.stored_statusByte (b : Bool) :
    (s.stored a v).statusByte b = s.statusByte b := rfl

end

theorem stored_wf {s : State} (h : Memory.wf s.mem = true) (a : Word) (v : Byte) :
    Memory.wf (s.stored a v).mem = true := by
  unfold State.stored
  split
  · exact Memory.wf_write h a.isLt
  · exact h

theorem peek_stored_ne {s : State} (h : Memory.wf s.mem = true) {a b : Word} (hb : b ≠ a)
    (v : Byte) : (s.stored a v).peek b = s.peek b := by
  unfold State.stored State.peek
  dsimp only
  split
  · exact Memory.read_write_ne h (fun he => hb (BitVec.eq_of_toNat_eq he))
  · rfl

theorem peek_stored_self {s : State} (h : Memory.wf s.mem = true) {a : Word}
    (ha : s.kindAt a = .ram) (v : Byte) : (s.stored a v).peek a = v := by
  simp [State.stored, State.peek, ha, Memory.read_write_self h]

theorem peek_stored_rom {s : State} {a : Word} (ha : s.kindAt a ≠ .ram) (v : Byte) (b : Word) :
    (s.stored a v).peek b = s.peek b := by
  simp [State.stored, State.peek, ha]

theorem readWord_ok_iff {s : State} {lo hi w : Word} :
    s.readWord lo hi = .ok w ↔
      s.accessible lo ∧ s.accessible hi ∧ w = mkWord (s.peek hi) (s.peek lo) := by
  simp only [State.readWord, bind_eq_ok, memRead_ok_iff, Except.ok.injEq]
  constructor
  · rintro ⟨l, ⟨hl, rfl⟩, h, ⟨hh, rfl⟩, rfl⟩
    exact ⟨hl, hh, rfl⟩
  · rintro ⟨hl, hh, rfl⟩
    exact ⟨_, ⟨hl, rfl⟩, _, ⟨hh, rfl⟩, rfl⟩

theorem readWord_error {s : State} {lo hi : Word} {e : Refusal} (h : s.readWord lo hi = .error e) :
    ∃ a, s.memRead a = .error e := by
  simp only [State.readWord, bind_eq_error] at h
  rcases h with h | ⟨l, -, h | ⟨b, -, h⟩⟩
  · exact ⟨_, h⟩
  · exact ⟨_, h⟩
  · cases h

theorem readVector_ok_iff {s : State} {vector w : Word} :
    s.readVector vector = .ok w ↔
      s.accessible vector ∧ s.accessible (vector + 1) ∧ w = s.vectorWord vector :=
  readWord_ok_iff

/-! ## The stack -/

theorem stackAddr_inj {p q : Byte} : stackAddr p = stackAddr q ↔ p = q := mkWord_right_inj

theorem push_ok_iff {s t : State} {v : Byte} :
    s.push v = .ok t ↔ s.accessible (stackAddr s.S) ∧ t = s.pushed v := by
  simp only [State.push, bind_eq_ok, memWrite_ok_iff, Except.ok.injEq]
  constructor
  · rintro ⟨u, ⟨h, rfl⟩, rfl⟩
    exact ⟨h, rfl⟩
  · rintro ⟨h, rfl⟩
    exact ⟨_, ⟨h, rfl⟩, rfl⟩

theorem pull_ok_iff {s t : State} {v : Byte} :
    s.pull = .ok (v, t) ↔
      s.accessible (stackAddr (s.S + 1)) ∧ v = s.top ∧ t = s.setS (s.S + 1) := by
  simp only [State.pull, bind_eq_ok, memRead_ok_iff, Except.ok.injEq, Prod.mk.injEq]
  constructor
  · rintro ⟨u, ⟨h, rfl⟩, rfl, rfl⟩
    exact ⟨h, rfl, rfl⟩
  · rintro ⟨h, rfl, rfl⟩
    exact ⟨_, ⟨h, rfl⟩, rfl, rfl⟩

section
variable (s : State) (v : Byte)

@[simp] theorem State.pushed_A : (s.pushed v).A = s.A := rfl
@[simp] theorem State.pushed_X : (s.pushed v).X = s.X := rfl
@[simp] theorem State.pushed_Y : (s.pushed v).Y = s.Y := rfl
@[simp] theorem State.pushed_S : (s.pushed v).S = s.S - 1 := rfl
@[simp] theorem State.pushed_pc : (s.pushed v).pc = s.pc := rfl
@[simp] theorem State.pushed_N : (s.pushed v).N = s.N := rfl
@[simp] theorem State.pushed_V : (s.pushed v).V = s.V := rfl
@[simp] theorem State.pushed_D : (s.pushed v).D = s.D := rfl
@[simp] theorem State.pushed_I : (s.pushed v).I = s.I := rfl
@[simp] theorem State.pushed_Z : (s.pushed v).Z = s.Z := rfl
@[simp] theorem State.pushed_C : (s.pushed v).C = s.C := rfl
@[simp] theorem State.pushed_nmiPending : (s.pushed v).nmiPending = s.nmiPending := rfl
@[simp] theorem State.pushed_iPrev : (s.pushed v).iPrev = s.iPrev := rfl
@[simp] theorem State.pushed_cfg : (s.pushed v).cfg = s.cfg := rfl
@[simp] theorem State.pushed_inputs : (s.pushed v).inputs = s.inputs := rfl
@[simp] theorem State.pushed_draws : (s.pushed v).draws = s.draws := rfl
@[simp] theorem State.pushed_kindAt (b : Word) : (s.pushed v).kindAt b = s.kindAt b := rfl
@[simp] theorem State.pushed_accessible (b : Word) :
    (s.pushed v).accessible b = s.accessible b := rfl
@[simp] theorem State.pushed_statusByte (b : Bool) :
    (s.pushed v).statusByte b = s.statusByte b := rfl

end

theorem pushed_wf {s : State} (h : Memory.wf s.mem = true) (v : Byte) :
    Memory.wf (s.pushed v).mem = true := stored_wf h _ v

theorem peek_pushed_ne {s : State} (h : Memory.wf s.mem = true) {a : Word}
    (ha : a ≠ stackAddr s.S) (v : Byte) : (s.pushed v).peek a = s.peek a :=
  peek_stored_ne h ha v

theorem peek_pushed_self {s : State} (h : Memory.wf s.mem = true)
    (ha : s.kindAt (stackAddr s.S) = .ram) (v : Byte) :
    (s.pushed v).peek (stackAddr s.S) = v := peek_stored_self h ha v

theorem pushWord_ok_iff {s t : State} {w : Word} :
    s.pushWord w = .ok t ↔
      s.accessible (stackAddr s.S) ∧ s.accessible (stackAddr (s.S - 1)) ∧ t = s.pushedWord w := by
  simp only [State.pushWord, bind_eq_ok, push_ok_iff]
  constructor
  · rintro ⟨u, ⟨h, rfl⟩, h', rfl⟩
    exact ⟨h, h', rfl⟩
  · rintro ⟨h, h', rfl⟩
    exact ⟨_, ⟨h, rfl⟩, h', rfl⟩

theorem pullWord_ok_iff {s t : State} {w : Word} :
    s.pullWord = .ok (w, t) ↔
      s.accessible (stackAddr (s.S + 1)) ∧ s.accessible (stackAddr (s.S + 2))
        ∧ w = s.topWord ∧ t = s.setS (s.S + 2) := by
  simp only [State.pullWord, bind_eq_ok, Prod.exists, pull_ok_iff, Except.ok.injEq, Prod.mk.injEq]
  constructor
  · rintro ⟨lo, u, ⟨h, rfl, rfl⟩, hi, u', ⟨h', rfl, rfl⟩, rfl, rfl⟩
    exact ⟨h, by simpa using h', by simp [State.topWord, State.top], by simp [State.setS]⟩
  · rintro ⟨h, h', rfl, rfl⟩
    exact ⟨_, _, ⟨h, rfl, rfl⟩, _, _, ⟨by simpa using h', rfl, rfl⟩,
      by simp [State.topWord, State.top], by simp [State.setS]⟩

/-! ## The status byte -/

/-- R16, R18, bit by bit. -/
theorem statusByte_bits (s : State) (b : Bool) :
    (s.statusByte b).getLsbD 7 = s.N ∧ (s.statusByte b).getLsbD 6 = s.V
      ∧ (s.statusByte b).getLsbD 5 = true ∧ (s.statusByte b).getLsbD 4 = b
      ∧ (s.statusByte b).getLsbD 3 = s.D ∧ (s.statusByte b).getLsbD 2 = s.I
      ∧ (s.statusByte b).getLsbD 1 = s.Z ∧ (s.statusByte b).getLsbD 0 = s.C := by
  have bits : ∀ n v b d i z c : Bool,
      let p : Byte := flagBit n ++ flagBit v ++ flagBit true ++ flagBit b ++ flagBit d
        ++ flagBit i ++ flagBit z ++ flagBit c
      p.getLsbD 7 = n ∧ p.getLsbD 6 = v ∧ p.getLsbD 5 = true ∧ p.getLsbD 4 = b
        ∧ p.getLsbD 3 = d ∧ p.getLsbD 2 = i ∧ p.getLsbD 1 = z ∧ p.getLsbD 0 = c := by decide
  exact bits s.N s.V b s.D s.I s.Z s.C

/-! ## Entry and return -/

theorem enter_ok_iff {s t : State} {vector ret : Word} {b : Bool} :
    s.enter vector b ret = .ok t ↔
      s.accessible (stackAddr s.S) ∧ s.accessible (stackAddr (s.S - 1))
        ∧ s.accessible (stackAddr (s.S - 2))
        ∧ s.accessible vector ∧ s.accessible (vector + 1)
        ∧ t = { s.pushedFrame b ret with
                I := true, iPrev := none, pc := (s.pushedFrame b ret).vectorWord vector } := by
  simp only [State.enter, bind_eq_ok, pushWord_ok_iff, push_ok_iff, readVector_ok_iff,
    Except.ok.injEq]
  constructor
  · rintro ⟨u, ⟨h1, h2, rfl⟩, u', ⟨h3, rfl⟩, w, ⟨h4, h5, rfl⟩, rfl⟩
    exact ⟨h1, h2, by simpa [State.pushedWord] using h3, h4, h5,
      by simp [State.pushedFrame, State.pushedWord]⟩
  · rintro ⟨h1, h2, h3, h4, h5, rfl⟩
    exact ⟨_, ⟨h1, h2, rfl⟩, _, ⟨by simpa [State.pushedWord] using h3, rfl⟩, _, ⟨h4, h5, rfl⟩,
      by simp [State.pushedFrame, State.pushedWord]⟩

theorem leave_ok_iff {s t : State} :
    s.leave = .ok t ↔
      s.accessible (stackAddr (s.S + 1)) ∧ s.accessible (stackAddr (s.S + 2))
        ∧ s.accessible (stackAddr (s.S + 3))
        ∧ t = ((s.setP s.top).setS (s.S + 3)).setPc
            (mkWord (s.peek (stackAddr (s.S + 3))) (s.peek (stackAddr (s.S + 2)))) := by
  simp only [State.leave, bind_eq_ok, Prod.exists, pull_ok_iff, pullWord_ok_iff, Except.ok.injEq]
  constructor
  · rintro ⟨v, u, ⟨h1, rfl, rfl⟩, w, u', ⟨h2, h3, rfl, rfl⟩, rfl⟩
    exact ⟨h1, by simpa using h2, by simpa using h3, by
      simp [State.topWord, State.top, State.setPc, State.setP, State.setS, State.peek]⟩
  · rintro ⟨h1, h2, h3, rfl⟩
    exact ⟨_, _, ⟨h1, rfl, rfl⟩, _, _, ⟨by simpa using h2, by simpa using h3, rfl, rfl⟩, by
      simp [State.topWord, State.top, State.setPc, State.setP, State.setS, State.peek]⟩

end Sys2Proof.Machine
end

