-- ==== Sys2Proof/Laws/Events.lean ====
section
/-! SUPPORT. What the instruction boundary can do: sampling the inputs, choosing an action, and taking
the event. -/

namespace Sys2Proof.Machine

/-! ## Sampling -/

@[simp] theorem State.sample_A (s : State) : s.sample.A = s.A := rfl
@[simp] theorem State.sample_X (s : State) : s.sample.X = s.X := rfl
@[simp] theorem State.sample_Y (s : State) : s.sample.Y = s.Y := rfl
@[simp] theorem State.sample_S (s : State) : s.sample.S = s.S := rfl
@[simp] theorem State.sample_pc (s : State) : s.sample.pc = s.pc := rfl
@[simp] theorem State.sample_N (s : State) : s.sample.N = s.N := rfl
@[simp] theorem State.sample_D (s : State) : s.sample.D = s.D := rfl
@[simp] theorem State.sample_I (s : State) : s.sample.I = s.I := rfl
@[simp] theorem State.sample_Z (s : State) : s.sample.Z = s.Z := rfl
@[simp] theorem State.sample_C (s : State) : s.sample.C = s.C := rfl
@[simp] theorem State.sample_mem (s : State) : s.sample.mem = s.mem := rfl
@[simp] theorem State.sample_iPrev (s : State) : s.sample.iPrev = s.iPrev := rfl
@[simp] theorem State.sample_cfg (s : State) : s.sample.cfg = s.cfg := rfl
@[simp] theorem State.sample_draws (s : State) : s.sample.draws = s.draws := rfl
@[simp] theorem State.sample_kindAt (s : State) (a : Word) : s.sample.kindAt a = s.kindAt a := rfl
@[simp] theorem State.sample_peek (s : State) (a : Word) : s.sample.peek a = s.peek a := rfl
@[simp] theorem State.sample_accessible (s : State) (a : Word) :
    s.sample.accessible a = s.accessible a := rfl
@[simp] theorem State.sample_memRead (s : State) (a : Word) :
    s.sample.memRead a = s.memRead a := rfl

/-! ## Choosing: only the number of draws can change -/

theorem irqMask_state (s : State) : ∃ d, s.irqMask.2 = { s with draws := d } := by
  unfold State.irqMask
  split
  · exact ⟨s.draws, rfl⟩
  · exact ⟨s.draws + 1, rfl⟩

theorem collision_state (s : State) : ∃ d, s.collision.2 = { s with draws := d } := by
  unfold State.collision
  split
  · exact ⟨s.draws, rfl⟩
  · exact ⟨s.draws + 1, rfl⟩

theorem takeOrDefer_state (s : State) : ∃ d, s.takeOrDefer.2 = { s with draws := d } := by
  unfold State.takeOrDefer
  split
  · split <;> exact collision_state s
  · exact ⟨s.draws, rfl⟩

theorem choose_state (s : State) (b : BoundaryInput) :
    ∃ d, (s.choose b).2 = { s with draws := d } := by
  unfold State.choose
  split
  · exact ⟨s.draws, rfl⟩
  split
  · exact ⟨s.draws, rfl⟩
  split
  · split
    · exact irqMask_state s
    · obtain ⟨d, hd⟩ := irqMask_state s
      rw [hd]
      exact takeOrDefer_state _
  · exact ⟨s.draws, rfl⟩

/-- At a boundary nothing changes but V, the NMI latch, the inputs and the draws. -/
theorem boundary_state (s : State) : ∃ d, s.boundary.2 = { s.sample with draws := d } :=
  choose_state s.sample s.nextInput

theorem takeOrDefer_action (s : State) :
    s.takeOrDefer.1 = .irq s.pc ∨ s.takeOrDefer.1 = .irq (s.pc + 2) ∨ s.takeOrDefer.1 = .run := by
  unfold State.takeOrDefer
  split
  · split <;> simp
  · simp

theorem choose_quiet {s : State} {b : BoundaryInput} (hr : b.resetLine = false)
    (hi : b.irqLine = false) (hn : s.nmiPending = false) : s.choose b = (.run, s) := by
  simp [State.choose, hr, hi, hn]

theorem choose_reset {s : State} {b : BoundaryInput} (h : b.resetLine = true) :
    s.choose b = (.reset, s) := by simp [State.choose, h]

theorem choose_nmi {s : State} {b : BoundaryInput} (hr : b.resetLine = false)
    (h : s.nmiPending = true) : s.choose b = (.nmi, s) := by simp [State.choose, hr, h]

theorem choose_irq {s : State} {b : BoundaryInput} (hr : b.resetLine = false)
    (hn : s.nmiPending = false) (hi : b.irqLine = true) :
    s.choose b = if s.irqMask.1 then (.run, s.irqMask.2) else s.irqMask.2.takeOrDefer := by
  simp [State.choose, hr, hn, hi]

/-- The NMI is not left waiting when the next instruction runs. -/
theorem choose_run_nmi {s : State} {b : BoundaryInput} (h : (s.choose b).1 = .run) :
    s.nmiPending = false := by
  unfold State.choose at h
  split at h
  · cases h
  split at h
  · cases h
  · simpa using ‹¬s.nmiPending = true›

/-! ## Taking an event -/

theorem takeReset_ok_iff {s t : State} :
    s.takeReset = .ok t ↔
      s.accessible resetVector ∧ s.accessible (resetVector + 1) ∧ t = { s with
        A := Config.drawByte s.draws
        X := Config.drawByte (s.draws + 1)
        Y := Config.drawByte (s.draws + 2)
        S := Config.drawByte (s.draws + 3)
        N := Config.drawBit (s.draws + 4)
        V := Config.drawBit (s.draws + 5)
        Z := Config.drawBit (s.draws + 6)
        C := Config.drawBit (s.draws + 7)
        D := Config.drawBit (s.draws + 8)
        I := true
        nmiPending := false
        iPrev := none
        pc := s.vectorWord resetVector
        draws := s.draws + 9 } := by
  simp only [State.takeReset, bind_eq_ok, readVector_ok_iff, Except.ok.injEq]
  constructor
  · rintro ⟨w, ⟨h, h', rfl⟩, rfl⟩
    exact ⟨h, h', rfl⟩
  · rintro ⟨h, h', rfl⟩
    exact ⟨_, ⟨h, h', rfl⟩, rfl⟩

/-! ## The end of an instruction -/

@[simp] theorem State.retire_A (s t : State) (i : Instr) : (s.retire i t).A = t.A := rfl
@[simp] theorem State.retire_X (s t : State) (i : Instr) : (s.retire i t).X = t.X := rfl
@[simp] theorem State.retire_Y (s t : State) (i : Instr) : (s.retire i t).Y = t.Y := rfl
@[simp] theorem State.retire_S (s t : State) (i : Instr) : (s.retire i t).S = t.S := rfl
@[simp] theorem State.retire_pc (s t : State) (i : Instr) : (s.retire i t).pc = t.pc := rfl
@[simp] theorem State.retire_N (s t : State) (i : Instr) : (s.retire i t).N = t.N := rfl
@[simp] theorem State.retire_V (s t : State) (i : Instr) : (s.retire i t).V = t.V := rfl
@[simp] theorem State.retire_D (s t : State) (i : Instr) : (s.retire i t).D = t.D := rfl
@[simp] theorem State.retire_I (s t : State) (i : Instr) : (s.retire i t).I = t.I := rfl
@[simp] theorem State.retire_Z (s t : State) (i : Instr) : (s.retire i t).Z = t.Z := rfl
@[simp] theorem State.retire_C (s t : State) (i : Instr) : (s.retire i t).C = t.C := rfl
@[simp] theorem State.retire_mem (s t : State) (i : Instr) : (s.retire i t).mem = t.mem := rfl
@[simp] theorem State.retire_nmiPending (s t : State) (i : Instr) : (s.retire i t).nmiPending = t.nmiPending := rfl
@[simp] theorem State.retire_cfg (s t : State) (i : Instr) : (s.retire i t).cfg = t.cfg := rfl
@[simp] theorem State.retire_inputs (s t : State) (i : Instr) : (s.retire i t).inputs = t.inputs := rfl
@[simp] theorem State.retire_draws (s t : State) (i : Instr) : (s.retire i t).draws = t.draws := rfl
@[simp] theorem State.retire_peek (s t : State) (i : Instr) (a : Word) :
    (s.retire i t).peek a = t.peek a := rfl

theorem State.retire_iPrev (s t : State) (i : Instr) :
    (s.retire i t).iPrev = if s.cfg.iFlagDelay && Instr.delaysMask i then some s.I else none := rfl

end Sys2Proof.Machine
end

