-- ==== Sys2Proof/Laws/Flags.lean ====
section
/-! SUPPORT. What ADC and SBC leave alone, in either mode, and their results in binary mode. -/

namespace Sys2Proof.Machine

section
variable (s : State) (m : Byte)

@[simp] theorem State.adc_X : (s.adc m).X = s.X := by
  unfold State.adc
  split
  · split <;> rfl
  · rfl

@[simp] theorem State.adc_Y : (s.adc m).Y = s.Y := by
  unfold State.adc
  split
  · split <;> rfl
  · rfl

@[simp] theorem State.adc_S : (s.adc m).S = s.S := by
  unfold State.adc
  split
  · split <;> rfl
  · rfl

@[simp] theorem State.adc_pc : (s.adc m).pc = s.pc := by
  unfold State.adc
  split
  · split <;> rfl
  · rfl

@[simp] theorem State.adc_D : (s.adc m).D = s.D := by
  unfold State.adc
  split
  · split <;> rfl
  · rfl

@[simp] theorem State.adc_I : (s.adc m).I = s.I := by
  unfold State.adc
  split
  · split <;> rfl
  · rfl

@[simp] theorem State.adc_mem : (s.adc m).mem = s.mem := by
  unfold State.adc
  split
  · split <;> rfl
  · rfl

@[simp] theorem State.adc_nmiPending : (s.adc m).nmiPending = s.nmiPending := by
  unfold State.adc
  split
  · split <;> rfl
  · rfl

@[simp] theorem State.adc_iPrev : (s.adc m).iPrev = s.iPrev := by
  unfold State.adc
  split
  · split <;> rfl
  · rfl

@[simp] theorem State.adc_cfg : (s.adc m).cfg = s.cfg := by
  unfold State.adc
  split
  · split <;> rfl
  · rfl

@[simp] theorem State.adc_inputs : (s.adc m).inputs = s.inputs := by
  unfold State.adc
  split
  · split <;> rfl
  · rfl

@[simp] theorem State.adc_peek (a : Word) : (s.adc m).peek a = s.peek a := by
  simp [State.peek]

@[simp] theorem State.adc_kindAt (a : Word) : (s.adc m).kindAt a = s.kindAt a := by
  simp [State.kindAt]

theorem State.adc_binary (h : s.D = false) : s.adc m = s.setAlu (adcBinary s.A m s.C) := by
  simp [State.adc, h]

theorem State.adc_draw (h : s.D = true) (hm : s.cfg.decimalModel = .draw) :
    s.adc m = s.setDecimalDraw (adcDecimal s.A m s.C) := by
  simp [State.adc, h, hm]

theorem State.adc_nmos (h : s.D = true) (hm : s.cfg.decimalModel = .nmos) :
    s.adc m = s.setAlu (adcNmos s.A m s.C) := by
  simp [State.adc, h, hm]

@[simp] theorem State.sbc_X : (s.sbc m).X = s.X := by
  unfold State.sbc
  split
  · split <;> rfl
  · rfl

@[simp] theorem State.sbc_Y : (s.sbc m).Y = s.Y := by
  unfold State.sbc
  split
  · split <;> rfl
  · rfl

@[simp] theorem State.sbc_S : (s.sbc m).S = s.S := by
  unfold State.sbc
  split
  · split <;> rfl
  · rfl

@[simp] theorem State.sbc_pc : (s.sbc m).pc = s.pc := by
  unfold State.sbc
  split
  · split <;> rfl
  · rfl

@[simp] theorem State.sbc_D : (s.sbc m).D = s.D := by
  unfold State.sbc
  split
  · split <;> rfl
  · rfl

@[simp] theorem State.sbc_I : (s.sbc m).I = s.I := by
  unfold State.sbc
  split
  · split <;> rfl
  · rfl

@[simp] theorem State.sbc_mem : (s.sbc m).mem = s.mem := by
  unfold State.sbc
  split
  · split <;> rfl
  · rfl

@[simp] theorem State.sbc_nmiPending : (s.sbc m).nmiPending = s.nmiPending := by
  unfold State.sbc
  split
  · split <;> rfl
  · rfl

@[simp] theorem State.sbc_iPrev : (s.sbc m).iPrev = s.iPrev := by
  unfold State.sbc
  split
  · split <;> rfl
  · rfl

@[simp] theorem State.sbc_cfg : (s.sbc m).cfg = s.cfg := by
  unfold State.sbc
  split
  · split <;> rfl
  · rfl

@[simp] theorem State.sbc_inputs : (s.sbc m).inputs = s.inputs := by
  unfold State.sbc
  split
  · split <;> rfl
  · rfl

@[simp] theorem State.sbc_peek (a : Word) : (s.sbc m).peek a = s.peek a := by
  simp [State.peek]

@[simp] theorem State.sbc_kindAt (a : Word) : (s.sbc m).kindAt a = s.kindAt a := by
  simp [State.kindAt]

theorem State.sbc_binary (h : s.D = false) : s.sbc m = s.setAlu (sbcBinary s.A m s.C) := by
  simp [State.sbc, h]

theorem State.sbc_draw (h : s.D = true) (hm : s.cfg.decimalModel = .draw) :
    s.sbc m = s.setDecimalDraw (sbcDecimal s.A m s.C) := by
  simp [State.sbc, h, hm]

theorem State.sbc_nmos (h : s.D = true) (hm : s.cfg.decimalModel = .nmos) :
    s.sbc m = s.setAlu (sbcNmos s.A m s.C) := by
  simp [State.sbc, h, hm]

end

end Sys2Proof.Machine
end

