-- ==== Sys2Proof/Laws/Operands.lean ====
section
/-! SUPPORT. What resolving, reading, writing and modifying an operand can do, once each. -/

namespace Sys2Proof.Machine

theorem zeroPagePointer_ok_iff {s : State} {z : Byte} {w : Word} :
    s.zeroPagePointer z = .ok w ↔
      s.accessible (zext16 z) ∧ s.accessible (zext16 (z + 1))
        ∧ w = mkWord (s.peek (zext16 (z + 1))) (s.peek (zext16 z)) :=
  readWord_ok_iff

theorem jmpIndirectTarget_ok_iff {s : State} {ptr w : Word} :
    s.jmpIndirectTarget ptr = .ok w ↔
      s.accessible ptr ∧ s.accessible (jmpPointerHigh s.cfg.jmpIndirectPageBug ptr)
        ∧ w = mkWord (s.peek (jmpPointerHigh s.cfg.jmpIndirectPageBug ptr)) (s.peek ptr) :=
  readWord_ok_iff

theorem readOperand_mem_ok_iff {s : State} {o : MemOperand} {v : Byte} :
    s.readOperand (.mem o) = .ok v ↔
      ∃ ea, s.effAddr o = .ok ea ∧ s.accessible ea ∧ v = s.peek ea := by
  simp only [State.readOperand, bind_eq_ok, memRead_ok_iff]

@[simp] theorem readOperand_imm (s : State) (m : Byte) : s.readOperand (.imm m) = .ok m := rfl

theorem writeOperand_ok_iff {s t : State} {o : MemOperand} {v : Byte} :
    s.writeOperand o v = .ok t ↔
      ∃ ea, s.effAddr o = .ok ea ∧ s.accessible ea ∧ t = s.stored ea v := by
  simp only [State.writeOperand, bind_eq_ok, memWrite_ok_iff]

@[simp] theorem modifyOperand_acc (s : State) (g : Byte → Byte) (flags : Byte → State → State) :
    s.modifyOperand .acc g flags = .ok (flags s.A (s.setA (g s.A))) := rfl

theorem modifyOperand_mem_ok_iff {s t : State} {o : MemOperand} {g : Byte → Byte}
    {flags : Byte → State → State} :
    s.modifyOperand (.mem o) g flags = .ok t ↔
      ∃ ea, s.effAddr o = .ok ea ∧ s.accessible ea
        ∧ t = flags (s.peek ea) (s.stored ea (g (s.peek ea))) := by
  simp only [State.modifyOperand, bind_eq_ok, memRead_ok_iff, memWrite_ok_iff, Except.ok.injEq]
  constructor
  · rintro ⟨ea, he, v, ⟨ha, rfl⟩, u, ⟨-, rfl⟩, rfl⟩
    exact ⟨ea, he, ha, rfl⟩
  · rintro ⟨ea, he, ha, rfl⟩
    exact ⟨ea, he, _, ⟨ha, rfl⟩, _, ⟨ha, rfl⟩, rfl⟩

/-! ## Where an operand access stops, an access to memory stopped -/

theorem effAddr_error {s : State} {o : MemOperand} {e : Refusal} (h : s.effAddr o = .error e) :
    ∃ a, s.memRead a = .error e := by
  cases o <;> simp only [State.effAddr, State.zeroPagePointer, reduceCtorEq] at h
  · exact readWord_error h
  · simp only [bind_eq_error, reduceCtorEq, and_false, exists_false, or_false] at h
    exact readWord_error h

theorem readOperand_error {s : State} {o : ReadOperand} {e : Refusal} (h : s.readOperand o = .error e) :
    ∃ a, s.memRead a = .error e := by
  cases o with
  | imm m => cases h
  | mem o =>
    simp only [State.readOperand, bind_eq_error] at h
    rcases h with h | ⟨ea, -, h⟩
    · exact effAddr_error h
    · exact ⟨ea, h⟩

/-! ## On a platform of RAM and ROM every operand is there -/

theorem effAddr_of_plainMap {s : State} (h : s.plainMap) (o : MemOperand) :
    ∃ ea, s.effAddr o = .ok ea := by
  cases o with
  | zp z => exact ⟨_, rfl⟩
  | zpX z => exact ⟨_, rfl⟩
  | zpY z => exact ⟨_, rfl⟩
  | abs a => exact ⟨_, rfl⟩
  | absX a => exact ⟨_, rfl⟩
  | absY a => exact ⟨_, rfl⟩
  | indX z => exact ⟨_, zeroPagePointer_ok_iff.2 ⟨h _, h _, rfl⟩⟩
  | indY z =>
    exact ⟨_, bind_eq_ok.2 ⟨_, zeroPagePointer_ok_iff.2 ⟨h _, h _, rfl⟩, rfl⟩⟩

theorem readOperand_of_plainMap {s : State} (h : s.plainMap) (o : ReadOperand) :
    ∃ v, s.readOperand o = .ok v := by
  cases o with
  | imm m => exact ⟨m, rfl⟩
  | mem o =>
    obtain ⟨ea, he⟩ := effAddr_of_plainMap h o
    exact ⟨_, readOperand_mem_ok_iff.2 ⟨ea, he, h ea, rfl⟩⟩

theorem writeOperand_of_plainMap {s : State} (h : s.plainMap) (o : MemOperand) (v : Byte) :
    ∃ t, s.writeOperand o v = .ok t := by
  obtain ⟨ea, he⟩ := effAddr_of_plainMap h o
  exact ⟨_, writeOperand_ok_iff.2 ⟨ea, he, h ea, rfl⟩⟩

theorem modifyOperand_of_plainMap {s : State} (h : s.plainMap) (o : RmwOperand) (g : Byte → Byte)
    (flags : Byte → State → State) : ∃ t, s.modifyOperand o g flags = .ok t := by
  cases o with
  | acc => exact ⟨_, rfl⟩
  | mem o =>
    obtain ⟨ea, he⟩ := effAddr_of_plainMap h o
    exact ⟨_, modifyOperand_mem_ok_iff.2 ⟨ea, he, h ea, rfl⟩⟩

end Sys2Proof.Machine
end

