-- ==== Sys2Proof/Laws/PerInstr.lean ====
section
/-! SUPPORT. A statement about every instruction as syntax, one lemma per constructor. -/

namespace Sys2Proof.Laws.Encoding

/-- R70, R72: the encoding is as long as the addressing mode says, and its first byte is an opcode that the
table defines. -/
def Statement (i : Instr) : Prop :=
  (encode i).length = i.length ∧ (decodeOpcode true i.opcode).isSome = true

theorem ldaImm (m : Byte) : Statement (.ldaImm m) := ⟨rfl, rfl⟩

theorem ldaZp (z : Byte) : Statement (.ldaZp z) := ⟨rfl, rfl⟩

theorem ldaZpX (z : Byte) : Statement (.ldaZpX z) := ⟨rfl, rfl⟩

theorem ldaAbs (a : Word) : Statement (.ldaAbs a) := ⟨rfl, rfl⟩

theorem ldaAbsX (a : Word) : Statement (.ldaAbsX a) := ⟨rfl, rfl⟩

theorem ldaAbsY (a : Word) : Statement (.ldaAbsY a) := ⟨rfl, rfl⟩

theorem ldaIndX (z : Byte) : Statement (.ldaIndX z) := ⟨rfl, rfl⟩

theorem ldaIndY (z : Byte) : Statement (.ldaIndY z) := ⟨rfl, rfl⟩

theorem ldxImm (m : Byte) : Statement (.ldxImm m) := ⟨rfl, rfl⟩

theorem ldxZp (z : Byte) : Statement (.ldxZp z) := ⟨rfl, rfl⟩

theorem ldxZpY (z : Byte) : Statement (.ldxZpY z) := ⟨rfl, rfl⟩

theorem ldxAbs (a : Word) : Statement (.ldxAbs a) := ⟨rfl, rfl⟩

theorem ldxAbsY (a : Word) : Statement (.ldxAbsY a) := ⟨rfl, rfl⟩

theorem ldyImm (m : Byte) : Statement (.ldyImm m) := ⟨rfl, rfl⟩

theorem ldyZp (z : Byte) : Statement (.ldyZp z) := ⟨rfl, rfl⟩

theorem ldyZpX (z : Byte) : Statement (.ldyZpX z) := ⟨rfl, rfl⟩

theorem ldyAbs (a : Word) : Statement (.ldyAbs a) := ⟨rfl, rfl⟩

theorem ldyAbsX (a : Word) : Statement (.ldyAbsX a) := ⟨rfl, rfl⟩

theorem staZp (z : Byte) : Statement (.staZp z) := ⟨rfl, rfl⟩

theorem staZpX (z : Byte) : Statement (.staZpX z) := ⟨rfl, rfl⟩

theorem staAbs (a : Word) : Statement (.staAbs a) := ⟨rfl, rfl⟩

theorem staAbsX (a : Word) : Statement (.staAbsX a) := ⟨rfl, rfl⟩

theorem staAbsY (a : Word) : Statement (.staAbsY a) := ⟨rfl, rfl⟩

theorem staIndX (z : Byte) : Statement (.staIndX z) := ⟨rfl, rfl⟩

theorem staIndY (z : Byte) : Statement (.staIndY z) := ⟨rfl, rfl⟩

theorem stxZp (z : Byte) : Statement (.stxZp z) := ⟨rfl, rfl⟩

theorem stxZpY (z : Byte) : Statement (.stxZpY z) := ⟨rfl, rfl⟩

theorem stxAbs (a : Word) : Statement (.stxAbs a) := ⟨rfl, rfl⟩

theorem styZp (z : Byte) : Statement (.styZp z) := ⟨rfl, rfl⟩

theorem styZpX (z : Byte) : Statement (.styZpX z) := ⟨rfl, rfl⟩

theorem styAbs (a : Word) : Statement (.styAbs a) := ⟨rfl, rfl⟩

theorem tax : Statement .tax := ⟨rfl, rfl⟩

theorem tay : Statement .tay := ⟨rfl, rfl⟩

theorem tsx : Statement .tsx := ⟨rfl, rfl⟩

theorem txa : Statement .txa := ⟨rfl, rfl⟩

theorem txs : Statement .txs := ⟨rfl, rfl⟩

theorem tya : Statement .tya := ⟨rfl, rfl⟩

theorem pha : Statement .pha := ⟨rfl, rfl⟩

theorem php : Statement .php := ⟨rfl, rfl⟩

theorem pla : Statement .pla := ⟨rfl, rfl⟩

theorem plp : Statement .plp := ⟨rfl, rfl⟩

theorem aslAcc : Statement .aslAcc := ⟨rfl, rfl⟩

theorem aslZp (z : Byte) : Statement (.aslZp z) := ⟨rfl, rfl⟩

theorem aslZpX (z : Byte) : Statement (.aslZpX z) := ⟨rfl, rfl⟩

theorem aslAbs (a : Word) : Statement (.aslAbs a) := ⟨rfl, rfl⟩

theorem aslAbsX (a : Word) : Statement (.aslAbsX a) := ⟨rfl, rfl⟩

theorem lsrAcc : Statement .lsrAcc := ⟨rfl, rfl⟩

theorem lsrZp (z : Byte) : Statement (.lsrZp z) := ⟨rfl, rfl⟩

theorem lsrZpX (z : Byte) : Statement (.lsrZpX z) := ⟨rfl, rfl⟩

theorem lsrAbs (a : Word) : Statement (.lsrAbs a) := ⟨rfl, rfl⟩

theorem lsrAbsX (a : Word) : Statement (.lsrAbsX a) := ⟨rfl, rfl⟩

theorem rolAcc : Statement .rolAcc := ⟨rfl, rfl⟩

theorem rolZp (z : Byte) : Statement (.rolZp z) := ⟨rfl, rfl⟩

theorem rolZpX (z : Byte) : Statement (.rolZpX z) := ⟨rfl, rfl⟩

theorem rolAbs (a : Word) : Statement (.rolAbs a) := ⟨rfl, rfl⟩

theorem rolAbsX (a : Word) : Statement (.rolAbsX a) := ⟨rfl, rfl⟩

theorem rorAcc : Statement .rorAcc := ⟨rfl, rfl⟩

theorem rorZp (z : Byte) : Statement (.rorZp z) := ⟨rfl, rfl⟩

theorem rorZpX (z : Byte) : Statement (.rorZpX z) := ⟨rfl, rfl⟩

theorem rorAbs (a : Word) : Statement (.rorAbs a) := ⟨rfl, rfl⟩

theorem rorAbsX (a : Word) : Statement (.rorAbsX a) := ⟨rfl, rfl⟩

theorem andImm (m : Byte) : Statement (.andImm m) := ⟨rfl, rfl⟩

theorem andZp (z : Byte) : Statement (.andZp z) := ⟨rfl, rfl⟩

theorem andZpX (z : Byte) : Statement (.andZpX z) := ⟨rfl, rfl⟩

theorem andAbs (a : Word) : Statement (.andAbs a) := ⟨rfl, rfl⟩

theorem andAbsX (a : Word) : Statement (.andAbsX a) := ⟨rfl, rfl⟩

theorem andAbsY (a : Word) : Statement (.andAbsY a) := ⟨rfl, rfl⟩

theorem andIndX (z : Byte) : Statement (.andIndX z) := ⟨rfl, rfl⟩

theorem andIndY (z : Byte) : Statement (.andIndY z) := ⟨rfl, rfl⟩

theorem bitZp (z : Byte) : Statement (.bitZp z) := ⟨rfl, rfl⟩

theorem bitAbs (a : Word) : Statement (.bitAbs a) := ⟨rfl, rfl⟩

theorem eorImm (m : Byte) : Statement (.eorImm m) := ⟨rfl, rfl⟩

theorem eorZp (z : Byte) : Statement (.eorZp z) := ⟨rfl, rfl⟩

theorem eorZpX (z : Byte) : Statement (.eorZpX z) := ⟨rfl, rfl⟩

theorem eorAbs (a : Word) : Statement (.eorAbs a) := ⟨rfl, rfl⟩

theorem eorAbsX (a : Word) : Statement (.eorAbsX a) := ⟨rfl, rfl⟩

theorem eorAbsY (a : Word) : Statement (.eorAbsY a) := ⟨rfl, rfl⟩

theorem eorIndX (z : Byte) : Statement (.eorIndX z) := ⟨rfl, rfl⟩

theorem eorIndY (z : Byte) : Statement (.eorIndY z) := ⟨rfl, rfl⟩

theorem oraImm (m : Byte) : Statement (.oraImm m) := ⟨rfl, rfl⟩

theorem oraZp (z : Byte) : Statement (.oraZp z) := ⟨rfl, rfl⟩

theorem oraZpX (z : Byte) : Statement (.oraZpX z) := ⟨rfl, rfl⟩

theorem oraAbs (a : Word) : Statement (.oraAbs a) := ⟨rfl, rfl⟩

theorem oraAbsX (a : Word) : Statement (.oraAbsX a) := ⟨rfl, rfl⟩

theorem oraAbsY (a : Word) : Statement (.oraAbsY a) := ⟨rfl, rfl⟩

theorem oraIndX (z : Byte) : Statement (.oraIndX z) := ⟨rfl, rfl⟩

theorem oraIndY (z : Byte) : Statement (.oraIndY z) := ⟨rfl, rfl⟩

theorem adcImm (m : Byte) : Statement (.adcImm m) := ⟨rfl, rfl⟩

theorem adcZp (z : Byte) : Statement (.adcZp z) := ⟨rfl, rfl⟩

theorem adcZpX (z : Byte) : Statement (.adcZpX z) := ⟨rfl, rfl⟩

theorem adcAbs (a : Word) : Statement (.adcAbs a) := ⟨rfl, rfl⟩

theorem adcAbsX (a : Word) : Statement (.adcAbsX a) := ⟨rfl, rfl⟩

theorem adcAbsY (a : Word) : Statement (.adcAbsY a) := ⟨rfl, rfl⟩

theorem adcIndX (z : Byte) : Statement (.adcIndX z) := ⟨rfl, rfl⟩

theorem adcIndY (z : Byte) : Statement (.adcIndY z) := ⟨rfl, rfl⟩

theorem cmpImm (m : Byte) : Statement (.cmpImm m) := ⟨rfl, rfl⟩

theorem cmpZp (z : Byte) : Statement (.cmpZp z) := ⟨rfl, rfl⟩

theorem cmpZpX (z : Byte) : Statement (.cmpZpX z) := ⟨rfl, rfl⟩

theorem cmpAbs (a : Word) : Statement (.cmpAbs a) := ⟨rfl, rfl⟩

theorem cmpAbsX (a : Word) : Statement (.cmpAbsX a) := ⟨rfl, rfl⟩

theorem cmpAbsY (a : Word) : Statement (.cmpAbsY a) := ⟨rfl, rfl⟩

theorem cmpIndX (z : Byte) : Statement (.cmpIndX z) := ⟨rfl, rfl⟩

theorem cmpIndY (z : Byte) : Statement (.cmpIndY z) := ⟨rfl, rfl⟩

theorem cpxImm (m : Byte) : Statement (.cpxImm m) := ⟨rfl, rfl⟩

theorem cpxZp (z : Byte) : Statement (.cpxZp z) := ⟨rfl, rfl⟩

theorem cpxAbs (a : Word) : Statement (.cpxAbs a) := ⟨rfl, rfl⟩

theorem cpyImm (m : Byte) : Statement (.cpyImm m) := ⟨rfl, rfl⟩

theorem cpyZp (z : Byte) : Statement (.cpyZp z) := ⟨rfl, rfl⟩

theorem cpyAbs (a : Word) : Statement (.cpyAbs a) := ⟨rfl, rfl⟩

theorem sbcImm (m : Byte) : Statement (.sbcImm m) := ⟨rfl, rfl⟩

theorem sbcZp (z : Byte) : Statement (.sbcZp z) := ⟨rfl, rfl⟩

theorem sbcZpX (z : Byte) : Statement (.sbcZpX z) := ⟨rfl, rfl⟩

theorem sbcAbs (a : Word) : Statement (.sbcAbs a) := ⟨rfl, rfl⟩

theorem sbcAbsX (a : Word) : Statement (.sbcAbsX a) := ⟨rfl, rfl⟩

theorem sbcAbsY (a : Word) : Statement (.sbcAbsY a) := ⟨rfl, rfl⟩

theorem sbcIndX (z : Byte) : Statement (.sbcIndX z) := ⟨rfl, rfl⟩

theorem sbcIndY (z : Byte) : Statement (.sbcIndY z) := ⟨rfl, rfl⟩

theorem decZp (z : Byte) : Statement (.decZp z) := ⟨rfl, rfl⟩

theorem decZpX (z : Byte) : Statement (.decZpX z) := ⟨rfl, rfl⟩

theorem decAbs (a : Word) : Statement (.decAbs a) := ⟨rfl, rfl⟩

theorem decAbsX (a : Word) : Statement (.decAbsX a) := ⟨rfl, rfl⟩

theorem dex : Statement .dex := ⟨rfl, rfl⟩

theorem dey : Statement .dey := ⟨rfl, rfl⟩

theorem incZp (z : Byte) : Statement (.incZp z) := ⟨rfl, rfl⟩

theorem incZpX (z : Byte) : Statement (.incZpX z) := ⟨rfl, rfl⟩

theorem incAbs (a : Word) : Statement (.incAbs a) := ⟨rfl, rfl⟩

theorem incAbsX (a : Word) : Statement (.incAbsX a) := ⟨rfl, rfl⟩

theorem inx : Statement .inx := ⟨rfl, rfl⟩

theorem iny : Statement .iny := ⟨rfl, rfl⟩

theorem brk : Statement .brk := ⟨rfl, rfl⟩

theorem jmpAbs (a : Word) : Statement (.jmpAbs a) := ⟨rfl, rfl⟩

theorem jmpInd (a : Word) : Statement (.jmpInd a) := ⟨rfl, rfl⟩

theorem jsr (a : Word) : Statement (.jsr a) := ⟨rfl, rfl⟩

theorem rti : Statement .rti := ⟨rfl, rfl⟩

theorem rts : Statement .rts := ⟨rfl, rfl⟩

theorem bcc (off : Byte) : Statement (.bcc off) := ⟨rfl, rfl⟩

theorem bcs (off : Byte) : Statement (.bcs off) := ⟨rfl, rfl⟩

theorem beq (off : Byte) : Statement (.beq off) := ⟨rfl, rfl⟩

theorem bmi (off : Byte) : Statement (.bmi off) := ⟨rfl, rfl⟩

theorem bne (off : Byte) : Statement (.bne off) := ⟨rfl, rfl⟩

theorem bpl (off : Byte) : Statement (.bpl off) := ⟨rfl, rfl⟩

theorem bvc (off : Byte) : Statement (.bvc off) := ⟨rfl, rfl⟩

theorem bvs (off : Byte) : Statement (.bvs off) := ⟨rfl, rfl⟩

theorem clc : Statement .clc := ⟨rfl, rfl⟩

theorem cld : Statement .cld := ⟨rfl, rfl⟩

theorem cli : Statement .cli := ⟨rfl, rfl⟩

theorem clv : Statement .clv := ⟨rfl, rfl⟩

theorem sec : Statement .sec := ⟨rfl, rfl⟩

theorem sed : Statement .sed := ⟨rfl, rfl⟩

theorem sei : Statement .sei := ⟨rfl, rfl⟩

theorem nop : Statement .nop := ⟨rfl, rfl⟩

end Sys2Proof.Laws.Encoding
end

