-- ==== Sys2Proof/Laws/Step.lean ====
section
/-! SUPPORT. What one step can do: each event, or one decoded instruction. -/

namespace Sys2Proof.Machine

theorem execute_next_iff {s t : State} {i : Instr} :
    s.execute i = .next t ↔ ∃ u, exec i s = .next u ∧ t = s.retire i u := by
  unfold State.execute
  constructor
  · intro h
    split at h
    · exact ⟨_, ‹_›, by simpa using h.symm⟩
    · cases h
    · cases h
  · rintro ⟨u, hu, rfl⟩
    rw [hu]

theorem runInstruction_next_iff {s t : State} :
    s.runInstruction = .next t ↔
      ∃ i u, s.fetch = .ok i ∧ exec i s = .next u ∧ t = s.retire i u := by
  unfold State.runInstruction
  constructor
  · intro h
    split at h
    · obtain ⟨u, hu, ht⟩ := execute_next_iff.1 h
      exact ⟨_, u, ‹_›, hu, ht⟩
    · cases h
  · rintro ⟨i, u, hf, hu, ht⟩
    rw [hf]
    exact execute_next_iff.2 ⟨u, hu, ht⟩

/-- Everything a step that goes on can be. -/
theorem step_cases {s t : State} (h : step s = .next t) :
    (s.boundary.1 = .reset ∧ s.boundary.2.takeReset = .ok t)
      ∨ (s.boundary.1 = .nmi ∧ s.boundary.2.takeNmi = .ok t)
      ∨ (∃ ret, s.boundary.1 = .irq ret ∧ s.boundary.2.takeIrq ret = .ok t)
      ∨ (s.boundary.1 = .run ∧ ∃ i u, s.boundary.2.fetch = .ok i
          ∧ exec i s.boundary.2 = .next u ∧ t = s.boundary.2.retire i u) := by
  unfold step at h
  split at h
  · rename_i b hb
    exact .inl ⟨by rw [hb], by rw [hb]; exact finish_next_iff.1 h⟩
  · rename_i b hb
    exact .inr (.inl ⟨by rw [hb], by rw [hb]; exact finish_next_iff.1 h⟩)
  · rename_i ret b hb
    exact .inr (.inr (.inl ⟨ret, by rw [hb], by rw [hb]; exact finish_next_iff.1 h⟩))
  · rename_i b hb
    exact .inr (.inr (.inr ⟨by rw [hb], by rw [hb]; exact runInstruction_next_iff.1 h⟩))

/-- A step whose boundary gives the action `run`. -/
theorem step_of_run {s b : State} (h : s.boundary = (.run, b)) : step s = b.runInstruction := by
  simp [step, h]

theorem runInstruction_of_fetch {s : State} {i : Instr} (h : s.fetch = .ok i) :
    s.runInstruction = s.execute i := by
  simp [State.runInstruction, h]

/-- The bytes at pc decode to the instruction the fetch gives. -/
theorem fetch_ok {s : State} {i : Instr} (h : s.fetch = .ok i) :
    s.accessible s.pc ∧ ∃ form, decodeOpcode s.cfg.hasROR (s.peek s.pc) = some form
      ∧ s.fetchOperand form = .ok i := by
  simp only [State.fetch, bind_eq_ok, memRead_ok_iff] at h
  obtain ⟨opc, ⟨ha, rfl⟩, h⟩ := h
  split at h
  · cases h
  · exact ⟨ha, _, ‹_›, h⟩

end Sys2Proof.Machine
end

