-- ==== Sys2Proof/Tests/Slice0.lean ====
section
/-! SUPPORT. Tests. Each expected result is the spec's: the encodings of its rules, the vectors V and E of
its test vector file, or the example of a rule. After them, for each obligation with hypotheses, a witness
that meets them. -/

namespace Sys2Proof.Tests

open Sys2Proof.Machine

/-! ## Well-formedness (R93): the five ROR instructions of a part without ROR -/

theorem test_wf_rejects_ror_acc : Instr.rorAcc.wellFormed false = false := by decide

theorem test_wf_rejects_ror_zp : (Instr.rorZp 0x40).wellFormed false = false := by decide

theorem test_wf_rejects_ror_zpx : (Instr.rorZpX 0x40).wellFormed false = false := by decide

theorem test_wf_rejects_ror_abs : (Instr.rorAbs 0x3000).wellFormed false = false := by decide

theorem test_wf_rejects_ror_absx : (Instr.rorAbsX 0x30FF).wellFormed false = false := by decide

theorem test_wf_accepts_ror : Instr.rorAcc.wellFormed true = true := by decide

/-! ## Decoding: every row of R96, with operand byte `$12` or operand word `$1234`, stored as `34 12` (R44) -/

/-- Each list of bytes decodes to the instruction beside it, all bytes used. -/
def decodesAll (rows : List (List Byte × Instr)) : Bool :=
  rows.all fun p => decide ((decode true p.1).toOption = some (p.2, []))

theorem test_decode_loads_and_stores_1 : decodesAll [
    ([0xA9, 0x12], .ldaImm 0x12), ([0xA5, 0x12], .ldaZp 0x12),
    ([0xB5, 0x12], .ldaZpX 0x12), ([0xAD, 0x34, 0x12], .ldaAbs 0x1234),
    ([0xBD, 0x34, 0x12], .ldaAbsX 0x1234), ([0xB9, 0x34, 0x12], .ldaAbsY 0x1234),
    ([0xA1, 0x12], .ldaIndX 0x12), ([0xB1, 0x12], .ldaIndY 0x12)] = true := by decide

theorem test_decode_loads_and_stores_2 : decodesAll [
    ([0xA2, 0x12], .ldxImm 0x12), ([0xA6, 0x12], .ldxZp 0x12),
    ([0xB6, 0x12], .ldxZpY 0x12), ([0xAE, 0x34, 0x12], .ldxAbs 0x1234),
    ([0xBE, 0x34, 0x12], .ldxAbsY 0x1234), ([0xA0, 0x12], .ldyImm 0x12),
    ([0xA4, 0x12], .ldyZp 0x12), ([0xB4, 0x12], .ldyZpX 0x12)] = true := by decide

theorem test_decode_loads_and_stores_3 : decodesAll [
    ([0xAC, 0x34, 0x12], .ldyAbs 0x1234), ([0xBC, 0x34, 0x12], .ldyAbsX 0x1234),
    ([0x85, 0x12], .staZp 0x12), ([0x95, 0x12], .staZpX 0x12),
    ([0x8D, 0x34, 0x12], .staAbs 0x1234), ([0x9D, 0x34, 0x12], .staAbsX 0x1234),
    ([0x99, 0x34, 0x12], .staAbsY 0x1234), ([0x81, 0x12], .staIndX 0x12)] = true := by decide

theorem test_decode_loads_and_stores_4 : decodesAll [
    ([0x91, 0x12], .staIndY 0x12), ([0x86, 0x12], .stxZp 0x12),
    ([0x96, 0x12], .stxZpY 0x12), ([0x8E, 0x34, 0x12], .stxAbs 0x1234),
    ([0x84, 0x12], .styZp 0x12), ([0x94, 0x12], .styZpX 0x12),
    ([0x8C, 0x34, 0x12], .styAbs 0x1234)] = true := by decide

theorem test_decode_transfers : decodesAll [
    ([0xAA], .tax), ([0xA8], .tay), ([0xBA], .tsx), ([0x8A], .txa), ([0x9A], .txs),
    ([0x98], .tya)] = true := by decide

theorem test_decode_stack : decodesAll [
    ([0x48], .pha), ([0x08], .php), ([0x68], .pla), ([0x28], .plp)] = true := by decide

theorem test_decode_shifts_1 : decodesAll [
    ([0x0A], .aslAcc), ([0x06, 0x12], .aslZp 0x12), ([0x16, 0x12], .aslZpX 0x12),
    ([0x0E, 0x34, 0x12], .aslAbs 0x1234), ([0x1E, 0x34, 0x12], .aslAbsX 0x1234),
    ([0x4A], .lsrAcc), ([0x46, 0x12], .lsrZp 0x12), ([0x56, 0x12], .lsrZpX 0x12)] = true := by decide

theorem test_decode_shifts_2 : decodesAll [
    ([0x4E, 0x34, 0x12], .lsrAbs 0x1234), ([0x5E, 0x34, 0x12], .lsrAbsX 0x1234),
    ([0x2A], .rolAcc), ([0x26, 0x12], .rolZp 0x12), ([0x36, 0x12], .rolZpX 0x12),
    ([0x2E, 0x34, 0x12], .rolAbs 0x1234), ([0x3E, 0x34, 0x12], .rolAbsX 0x1234),
    ([0x6A], .rorAcc)] = true := by decide

theorem test_decode_shifts_3 : decodesAll [
    ([0x66, 0x12], .rorZp 0x12), ([0x76, 0x12], .rorZpX 0x12),
    ([0x6E, 0x34, 0x12], .rorAbs 0x1234), ([0x7E, 0x34, 0x12], .rorAbsX 0x1234)] = true := by decide

theorem test_decode_logic_1 : decodesAll [
    ([0x29, 0x12], .andImm 0x12), ([0x25, 0x12], .andZp 0x12),
    ([0x35, 0x12], .andZpX 0x12), ([0x2D, 0x34, 0x12], .andAbs 0x1234),
    ([0x3D, 0x34, 0x12], .andAbsX 0x1234), ([0x39, 0x34, 0x12], .andAbsY 0x1234),
    ([0x21, 0x12], .andIndX 0x12), ([0x31, 0x12], .andIndY 0x12)] = true := by decide

theorem test_decode_logic_2 : decodesAll [
    ([0x24, 0x12], .bitZp 0x12), ([0x2C, 0x34, 0x12], .bitAbs 0x1234),
    ([0x49, 0x12], .eorImm 0x12), ([0x45, 0x12], .eorZp 0x12),
    ([0x55, 0x12], .eorZpX 0x12), ([0x4D, 0x34, 0x12], .eorAbs 0x1234),
    ([0x5D, 0x34, 0x12], .eorAbsX 0x1234), ([0x59, 0x34, 0x12], .eorAbsY 0x1234)] = true := by decide

theorem test_decode_logic_3 : decodesAll [
    ([0x41, 0x12], .eorIndX 0x12), ([0x51, 0x12], .eorIndY 0x12),
    ([0x09, 0x12], .oraImm 0x12), ([0x05, 0x12], .oraZp 0x12),
    ([0x15, 0x12], .oraZpX 0x12), ([0x0D, 0x34, 0x12], .oraAbs 0x1234),
    ([0x1D, 0x34, 0x12], .oraAbsX 0x1234), ([0x19, 0x34, 0x12], .oraAbsY 0x1234)] = true := by decide

theorem test_decode_logic_4 : decodesAll [
    ([0x01, 0x12], .oraIndX 0x12), ([0x11, 0x12], .oraIndY 0x12)] = true := by decide

theorem test_decode_arithmetic_1 : decodesAll [
    ([0x69, 0x12], .adcImm 0x12), ([0x65, 0x12], .adcZp 0x12),
    ([0x75, 0x12], .adcZpX 0x12), ([0x6D, 0x34, 0x12], .adcAbs 0x1234),
    ([0x7D, 0x34, 0x12], .adcAbsX 0x1234), ([0x79, 0x34, 0x12], .adcAbsY 0x1234),
    ([0x61, 0x12], .adcIndX 0x12), ([0x71, 0x12], .adcIndY 0x12)] = true := by decide

theorem test_decode_arithmetic_2 : decodesAll [
    ([0xC9, 0x12], .cmpImm 0x12), ([0xC5, 0x12], .cmpZp 0x12),
    ([0xD5, 0x12], .cmpZpX 0x12), ([0xCD, 0x34, 0x12], .cmpAbs 0x1234),
    ([0xDD, 0x34, 0x12], .cmpAbsX 0x1234), ([0xD9, 0x34, 0x12], .cmpAbsY 0x1234),
    ([0xC1, 0x12], .cmpIndX 0x12), ([0xD1, 0x12], .cmpIndY 0x12)] = true := by decide

theorem test_decode_arithmetic_3 : decodesAll [
    ([0xE0, 0x12], .cpxImm 0x12), ([0xE4, 0x12], .cpxZp 0x12),
    ([0xEC, 0x34, 0x12], .cpxAbs 0x1234), ([0xC0, 0x12], .cpyImm 0x12),
    ([0xC4, 0x12], .cpyZp 0x12), ([0xCC, 0x34, 0x12], .cpyAbs 0x1234),
    ([0xE9, 0x12], .sbcImm 0x12), ([0xE5, 0x12], .sbcZp 0x12)] = true := by decide

theorem test_decode_arithmetic_4 : decodesAll [
    ([0xF5, 0x12], .sbcZpX 0x12), ([0xED, 0x34, 0x12], .sbcAbs 0x1234),
    ([0xFD, 0x34, 0x12], .sbcAbsX 0x1234), ([0xF9, 0x34, 0x12], .sbcAbsY 0x1234),
    ([0xE1, 0x12], .sbcIndX 0x12), ([0xF1, 0x12], .sbcIndY 0x12)] = true := by decide

theorem test_decode_increments_1 : decodesAll [
    ([0xC6, 0x12], .decZp 0x12), ([0xD6, 0x12], .decZpX 0x12),
    ([0xCE, 0x34, 0x12], .decAbs 0x1234), ([0xDE, 0x34, 0x12], .decAbsX 0x1234),
    ([0xCA], .dex), ([0x88], .dey), ([0xE6, 0x12], .incZp 0x12),
    ([0xF6, 0x12], .incZpX 0x12)] = true := by decide

theorem test_decode_increments_2 : decodesAll [
    ([0xEE, 0x34, 0x12], .incAbs 0x1234), ([0xFE, 0x34, 0x12], .incAbsX 0x1234),
    ([0xE8], .inx), ([0xC8], .iny)] = true := by decide

theorem test_decode_control : decodesAll [
    ([0x00], .brk), ([0x4C, 0x34, 0x12], .jmpAbs 0x1234),
    ([0x6C, 0x34, 0x12], .jmpInd 0x1234), ([0x20, 0x34, 0x12], .jsr 0x1234),
    ([0x40], .rti), ([0x60], .rts)] = true := by decide

theorem test_decode_branches : decodesAll [
    ([0x90, 0x12], .bcc 0x12), ([0xB0, 0x12], .bcs 0x12), ([0xF0, 0x12], .beq 0x12),
    ([0x30, 0x12], .bmi 0x12), ([0xD0, 0x12], .bne 0x12), ([0x10, 0x12], .bpl 0x12),
    ([0x50, 0x12], .bvc 0x12), ([0x70, 0x12], .bvs 0x12)] = true := by decide

theorem test_decode_flags : decodesAll [
    ([0x18], .clc), ([0xD8], .cld), ([0x58], .cli), ([0xB8], .clv), ([0x38], .sec),
    ([0xF8], .sed), ([0x78], .sei)] = true := by decide

theorem test_decode_nop : decodesAll [
    ([0xEA], .nop)] = true := by decide

theorem test_decode_refuses_undefined :
    undefinedOpcodes.all (fun b => (decodeOpcode true b).isNone) = true := by decide

theorem test_decode_refuses_truncated : (decode true [0xAD, 0x34]).toOption = none := by decide

/-- The host's numbering of a table word: `STA $02FF,X`, and an opcode alone with operand bytes of zeros. -/
theorem test_table_word : decodeTableWord 24 0x02FF9D = some (.staAbsX 0x02FF)
    ∧ decodeTableWord 8 0xF9 = some (.sbcAbsY 0) := by decide

/-! ## Assembly (R94) and cycles (R271 to R273) -/

theorem test_assembly_indexed_indirect :
    assemblyText 0 (.ldaIndX 0x10) = "LDA ($10,X)" := by decide

theorem test_assembly_branch : assemblyText 0x0205 (.bne 0xF9) = "BNE $0200" := by decide

theorem test_branch_offset : branchOffset 0x0205 0x0200 = some 0xF9 := by decide

/-! ## One step on the spec's vectors -/

/-- The default start state of the vectors, with cells placed and registers changed. -/
def start (pc : Word) (bytes : List Byte) (cells : List (Word × List Byte)) (regs : State → State) :
    State :=
  let place (m : Memory) (p : Word × List Byte) : Memory :=
    (p.2.foldl (fun q b => (Memory.write q.1 q.2.toNat b, q.2 + 1)) (m, p.1)).1
  regs { State.reset with S := 0xFF, I := false, pc := pc, mem := ((pc, bytes) :: cells).foldl place [] }

/-- The six flags, in the order N V D I Z C. -/
def flags (t : State) : List Bool := [t.N, t.V, t.D, t.I, t.Z, t.C]

/-- What `f` sees in the state after one step. -/
def see {α : Type} (s : State) (f : State → α) : Option α :=
  match step s with
  | .next t => some (f t)
  | _ => none

/-- V5: `LDA $F0,X`, rule R101. -/
theorem test_v5_lda : see
    (start 0x0200 [0xB5, 0xF0] [(0x0010, [0xAA]), (0x0110, [0x11])] (fun s => { s with X := 0x20 }))
    (fun t => (t.A, t.pc, flags t))
    = some (0xAA, 0x0202, [true, false, false, false, false, false]) := by decide

/-- V13: `LDA ($FF),Y`, rule R101. -/
theorem test_v13_lda : see
    (start 0x0200 [0xB1, 0xFF] [(0x00FF, [0x00]), (0x0000, [0x40]), (0x0100, [0x50]), (0x4001, [0xC3])] (fun s => { s with Y := 0x01 }))
    (fun t => (t.A, t.pc, flags t))
    = some (0xC3, 0x0202, [true, false, false, false, false, false]) := by decide

/-- V15: `LDX $80,Y`, rule R102. -/
theorem test_v15_ldx : see
    (start 0x0200 [0xB6, 0x80] [(0x0010, [0x00])] (fun s => { s with Y := 0x90 }))
    (fun t => (t.pc, flags t))
    = some (0x0202, [false, false, false, false, true, false]) := by decide

/-- V16: `LDX $3000,Y`, rule R102. -/
theorem test_v16_ldx : see
    (start 0x0200 [0xBE, 0x00, 0x30] [(0x30FF, [0x12])] (fun s => { s with Y := 0xFF }))
    (fun t => (t.X, t.pc, flags t))
    = some (0x12, 0x0203, [false, false, false, false, false, false]) := by decide

/-- V17: `LDY #$00`, rule R103. -/
theorem test_v17_ldy : see
    (start 0x0200 [0xA0, 0x00] [] (fun s => { s with N := true }))
    (fun t => (t.pc, flags t))
    = some (0x0202, [false, false, false, false, true, false]) := by decide

/-- V18: `LDY $4080,X`, rule R103. -/
theorem test_v18_ldy : see
    (start 0x0200 [0xBC, 0x80, 0x40] [(0x4100, [0xF0])] (fun s => { s with X := 0x80 }))
    (fun t => (t.Y, t.pc, flags t))
    = some (0xF0, 0x0203, [true, false, false, false, false, false]) := by decide

/-- V20: `STA $3000,X`, rule R104. -/
theorem test_v20_sta : see
    (start 0x0200 [0x9D, 0x00, 0x30] [] (fun s => { s with A := 0xAB, X := 0x05 }))
    (fun t => (t.pc, t.N, t.Z, t.peek 0x3005))
    = some (0x0203, false, false, 0xAB) := by decide

/-- V23: `STA ($10),Y`, rule R104. -/
theorem test_v23_sta : see
    (start 0x0200 [0x91, 0x10] [(0x0010, [0x01, 0x50])] (fun s => { s with A := 0x77, Y := 0xFF }))
    (fun t => (t.pc, t.N, t.Z, t.peek 0x5100))
    = some (0x0202, false, false, 0x77) := by decide

/-- V24: `STX $FF,Y`, rule R105. -/
theorem test_v24_stx : see
    (start 0x0200 [0x96, 0xFF] [] (fun s => { s with X := 0x3C, Y := 0x02 }))
    (fun t => (t.pc, t.N, t.Z, t.peek 0x0001))
    = some (0x0202, false, false, 0x3C) := by decide

/-- V25: `STY $10,X`, rule R106. -/
theorem test_v25_sty : see
    (start 0x0200 [0x94, 0x10] [] (fun s => { s with Y := 0x80, X := 0x01, Z := true }))
    (fun t => (t.pc, t.N, t.Z, t.peek 0x0011))
    = some (0x0202, false, true, 0x80) := by decide

/-- V26: `STX $2200`, rule R105. -/
theorem test_v26_stx : see
    (start 0x0200 [0x8E, 0x00, 0x22] [] (fun s => { s with X := 0x99 }))
    (fun t => (t.pc, t.N, t.Z, t.peek 0x2200))
    = some (0x0203, false, false, 0x99) := by decide

/-- V27: `STY $FFFF`, rule R106. -/
theorem test_v27_sty : see
    (start 0x0200 [0x8C, 0xFF, 0xFF] [] (fun s => { s with Y := 0x01 }))
    (fun t => (t.pc, t.N, t.Z, t.peek 0xFFFF))
    = some (0x0203, false, false, 0x01) := by decide

/-- V30: `TAX`, rule R111. -/
theorem test_v30_tax : see
    (start 0x0200 [0xAA] [] (fun s => { s with X := 0x55, N := true }))
    (fun t => (t.X, t.pc, flags t))
    = some (0x00, 0x0201, [false, false, false, false, true, false]) := by decide

/-- V31: `TAX`, rule R111. -/
theorem test_v31_tax : see
    (start 0x0200 [0xAA] [] (fun s => { s with A := 0x80 }))
    (fun t => (t.X, t.pc, flags t))
    = some (0x80, 0x0201, [true, false, false, false, false, false]) := by decide

/-- V32: `TAY`, rule R112. -/
theorem test_v32_tay : see
    (start 0x0200 [0xA8] [] (fun s => { s with A := 0x7F, N := true, Z := true }))
    (fun t => (t.Y, t.pc, flags t))
    = some (0x7F, 0x0201, [false, false, false, false, false, false]) := by decide

/-- V33: `TSX`, rule R113. -/
theorem test_v33_tsx : see
    (start 0x0200 [0xBA] [] id)
    (fun t => (t.X, t.pc, flags t))
    = some (0xFF, 0x0201, [true, false, false, false, false, false]) := by decide

/-- V34: `TSX`, rule R113. -/
theorem test_v34_tsx : see
    (start 0x0200 [0xBA] [] (fun s => { s with S := 0x00, X := 0x12 }))
    (fun t => (t.X, t.pc, flags t))
    = some (0x00, 0x0201, [false, false, false, false, true, false]) := by decide

/-- V35: `TXA`, rule R114. -/
theorem test_v35_txa : see
    (start 0x0200 [0x8A] [] (fun s => { s with A := 0x44 }))
    (fun t => (t.A, t.pc, flags t))
    = some (0x00, 0x0201, [false, false, false, false, true, false]) := by decide

/-- V36: `TXS`, rule R115. -/
theorem test_v36_txs : see
    (start 0x0200 [0x9A] [] (fun s => { s with N := true }))
    (fun t => (t.S, t.pc, t.N, t.Z))
    = some (0x00, 0x0201, true, false) := by decide

/-- V37: `TXS`, rule R115. -/
theorem test_v37_txs : see
    (start 0x0200 [0x9A] [] (fun s => { s with X := 0x80, S := 0x10 }))
    (fun t => (t.S, t.pc, t.N, t.Z))
    = some (0x80, 0x0201, false, false) := by decide

/-- V38: `TYA`, rule R116. -/
theorem test_v38_tya : see
    (start 0x0200 [0x98] [] (fun s => { s with Y := 0xF0, A := 0x01 }))
    (fun t => (t.A, t.pc, flags t))
    = some (0xF0, 0x0201, [true, false, false, false, false, false]) := by decide

/-- V41: `PHA`, rule R121. -/
theorem test_v41_pha : see
    (start 0x0200 [0x48] [] (fun s => { s with S := 0x00, N := true }))
    (fun t => (t.S, t.pc, t.N, t.Z, t.peek 0x0100))
    = some (0xFF, 0x0201, true, false, 0x00) := by decide

/-- V44: `PHP`, rule R122. -/
theorem test_v44_php : see
    (start 0x0200 [0x08] [] (fun s => { s with N := true, C := true, S := 0x80 }))
    (fun t => (t.S, t.pc, t.N, t.Z, t.peek 0x0180))
    = some (0x7F, 0x0201, true, false, 0xB1) := by decide

/-- V46: `PLA`, rule R123. -/
theorem test_v46_pla : see
    (start 0x0200 [0x68] [(0x0100, [0x00])] (fun s => { s with A := 0x11 }))
    (fun t => (t.A, t.S, t.pc, flags t))
    = some (0x00, 0x00, 0x0201, [false, false, false, false, true, false]) := by decide

/-- V49: `PLP`, rule R124. -/
theorem test_v49_plp : see
    (start 0x0200 [0x28] [(0x01FF, [0x30])] (fun s => { s with S := 0xFE }))
    (fun t => (t.S, t.pc, flags t))
    = some (0xFF, 0x0201, [false, false, false, false, false, false]) := by decide

/-- V50: `PLP`, rule R124. -/
theorem test_v50_plp : see
    (start 0x0200 [0x28] [(0x01FF, [0xC3])] (fun s => { s with S := 0xFE }))
    (fun t => (t.S, t.pc, flags t))
    = some (0xFF, 0x0201, [true, true, false, false, true, true]) := by decide

/-- V62: `ASL A`, rule R131. -/
theorem test_v62_asl : see
    (start 0x0200 [0x0A] [] (fun s => { s with A := 0xFF, V := true }))
    (fun t => (t.A, t.pc, flags t))
    = some (0xFE, 0x0201, [true, true, false, false, false, true]) := by decide

/-- V64: `ASL $3000,X`, rule R131. -/
theorem test_v64_asl : see
    (start 0x0200 [0x1E, 0x00, 0x30] [(0x3001, [0x01])] (fun s => { s with X := 0x01 }))
    (fun t => (t.pc, flags t, t.peek 0x3001))
    = some (0x0203, [false, false, false, false, false, false], 0x02) := by decide

/-- V65: `LSR A`, rule R132. -/
theorem test_v65_lsr : see
    (start 0x0200 [0x4A] [] (fun s => { s with A := 0x01, N := true }))
    (fun t => (t.A, t.pc, flags t))
    = some (0x00, 0x0201, [false, false, false, false, true, true]) := by decide

/-- V70: `ROL A`, rule R133. -/
theorem test_v70_rol : see
    (start 0x0200 [0x2A] [] (fun s => { s with A := 0x40, C := true }))
    (fun t => (t.A, t.pc, flags t))
    = some (0x81, 0x0201, [true, false, false, false, false, false]) := by decide

/-- V71: `ROL $40`, rule R133. -/
theorem test_v71_rol : see
    (start 0x0200 [0x26, 0x40] [(0x0040, [0x00])] (fun s => { s with C := true }))
    (fun t => (t.pc, flags t, t.peek 0x0040))
    = some (0x0202, [false, false, false, false, false, false], 0x01) := by decide

/-- V73: `ROR A`, rule R134. -/
theorem test_v73_ror : see
    (start 0x0200 [0x6A] [] (fun s => { s with C := true }))
    (fun t => (t.A, t.pc, flags t))
    = some (0x80, 0x0201, [true, false, false, false, false, false]) := by decide

/-- V76: `ROR $30FF,X`, rule R134. -/
theorem test_v76_ror : see
    (start 0x0200 [0x7E, 0xFF, 0x30] [(0x3100, [0x01])] (fun s => { s with X := 0x01 }))
    (fun t => (t.pc, flags t, t.peek 0x3100))
    = some (0x0203, [false, false, false, false, true, true], 0x00) := by decide

/-- V77: `LSR $FF,X`, rule R132. -/
theorem test_v77_lsr : see
    (start 0x0200 [0x56, 0xFF] [(0x0001, [0x03])] (fun s => { s with X := 0x02 }))
    (fun t => (t.pc, flags t, t.peek 0x0001))
    = some (0x0202, [false, false, false, false, false, true], 0x01) := by decide

/-- V81: `AND #$F0`, rule R141. -/
theorem test_v81_and : see
    (start 0x0200 [0x29, 0xF0] [] (fun s => { s with A := 0x90, C := true, V := true }))
    (fun t => (t.pc, flags t))
    = some (0x0202, [true, true, false, false, false, true]) := by decide

/-- V83: `ORA #$80`, rule R144. -/
theorem test_v83_ora : see
    (start 0x0200 [0x09, 0x80] [] (fun s => { s with A := 0x01 }))
    (fun t => (t.A, t.pc, flags t))
    = some (0x81, 0x0202, [true, false, false, false, false, false]) := by decide

/-- V85: `EOR #$FF`, rule R143. -/
theorem test_v85_eor : see
    (start 0x0200 [0x49, 0xFF] [] (fun s => { s with A := 0x0F }))
    (fun t => (t.A, t.pc, flags t))
    = some (0xF0, 0x0202, [true, false, false, false, false, false]) := by decide

/-- V86: `BIT $40`, rule R142. -/
theorem test_v86_bit : see
    (start 0x0200 [0x24, 0x40] [(0x0040, [0xC0])] (fun s => { s with A := 0x01 }))
    (fun t => (t.pc, flags t))
    = some (0x0202, [true, true, false, false, true, false]) := by decide

/-- V88: `BIT $3000`, rule R142. -/
theorem test_v88_bit : see
    (start 0x0200 [0x2C, 0x00, 0x30] [(0x3000, [0x80])] (fun s => { s with C := true }))
    (fun t => (t.pc, flags t))
    = some (0x0203, [true, false, false, false, true, true]) := by decide

/-- V90: `AND ($40),Y`, rule R141. -/
theorem test_v90_and : see
    (start 0x0200 [0x31, 0x40] [(0x0040, [0xFF, 0x30]), (0x3100, [0x5A])] (fun s => { s with A := 0xFF, Y := 0x01 }))
    (fun t => (t.A, t.pc, flags t))
    = some (0x5A, 0x0202, [false, false, false, false, false, false]) := by decide

/-- V91: `ORA $FF,X`, rule R144. -/
theorem test_v91_ora : see
    (start 0x0200 [0x15, 0xFF] [(0x0000, [0x02])] (fun s => { s with A := 0x01, X := 0x01 }))
    (fun t => (t.A, t.pc, flags t))
    = some (0x03, 0x0202, [false, false, false, false, false, false]) := by decide

/-- V92: `EOR $3000,X`, rule R143. -/
theorem test_v92_eor : see
    (start 0x0200 [0x5D, 0x00, 0x30] [(0x3010, [0xAA])] (fun s => { s with A := 0xAA, X := 0x10 }))
    (fun t => (t.A, t.pc, flags t))
    = some (0x00, 0x0203, [false, false, false, false, true, false]) := by decide

/-- V103: `ADC #$00`, rule R151. -/
theorem test_v103_adc : see
    (start 0x0200 [0x69, 0x00] [] (fun s => { s with A := 0x7F, C := true }))
    (fun t => (t.A, t.pc, flags t))
    = some (0x80, 0x0202, [true, true, false, false, false, false]) := by decide

/-- V109: `ADC $3080,Y`, rule R151. -/
theorem test_v109_adc : see
    (start 0x0200 [0x79, 0x80, 0x30] [(0x3100, [0x20])] (fun s => { s with A := 0x10, Y := 0x80 }))
    (fun t => (t.A, t.pc, flags t))
    = some (0x30, 0x0203, [false, false, false, false, false, false]) := by decide

/-- V113: `SBC #$01`, rule R157. -/
theorem test_v113_sbc : see
    (start 0x0200 [0xE9, 0x01] [] (fun s => { s with A := 0x80, C := true }))
    (fun t => (t.A, t.pc, flags t))
    = some (0x7F, 0x0202, [false, true, false, false, false, true]) := by decide

/-- V123: `CMP #$01`, rule R154. -/
theorem test_v123_cmp : see
    (start 0x0200 [0xC9, 0x01] [] (fun s => { s with A := 0x80 }))
    (fun t => (t.pc, flags t))
    = some (0x0202, [false, false, false, false, false, true]) := by decide

/-- V124: `CMP #$FF`, rule R154. -/
theorem test_v124_cmp : see
    (start 0x0200 [0xC9, 0xFF] [] (fun s => { s with C := true }))
    (fun t => (t.pc, flags t))
    = some (0x0202, [false, false, false, false, false, false]) := by decide

/-- V126: `CPX #$10`, rule R155. -/
theorem test_v126_cpx : see
    (start 0x0200 [0xE0, 0x10] [] (fun s => { s with X := 0xF0 }))
    (fun t => (t.pc, flags t))
    = some (0x0202, [true, false, false, false, false, true]) := by decide

/-- V127: `CPX $40`, rule R155. -/
theorem test_v127_cpx : see
    (start 0x0200 [0xE4, 0x40] [(0x0040, [0x01])] (fun s => { s with C := true }))
    (fun t => (t.pc, flags t))
    = some (0x0202, [true, false, false, false, false, false]) := by decide

/-- V128: `CPY #$80`, rule R156. -/
theorem test_v128_cpy : see
    (start 0x0200 [0xC0, 0x80] [] (fun s => { s with Y := 0x80, N := true }))
    (fun t => (t.pc, flags t))
    = some (0x0202, [false, false, false, false, true, true]) := by decide

/-- V129: `CPY $3000`, rule R156. -/
theorem test_v129_cpy : see
    (start 0x0200 [0xCC, 0x00, 0x30] [(0x3000, [0x80])] (fun s => { s with Y := 0x7F }))
    (fun t => (t.pc, flags t))
    = some (0x0203, [true, false, false, false, false, false]) := by decide

/-- V140: `ADC #$46`, rules R152, R153. -/
theorem test_v140_adc : see
    (start 0x0200 [0x69, 0x46] [] (fun s => { s with A := 0x58, C := true, D := true }))
    (fun t => (t.A, t.pc, t.C))
    = some (0x05, 0x0202, true) := by decide

/-- V149: `SBC #$00`, rules R158, R159. -/
theorem test_v149_sbc : see
    (start 0x0200 [0xE9, 0x00] [] (fun s => { s with D := true }))
    (fun t => (t.A, t.pc, t.C))
    = some (0x99, 0x0202, false) := by decide

/-- V153: `INX`, rule R175. -/
theorem test_v153_inx : see
    (start 0x0200 [0xE8] [] (fun s => { s with X := 0x09, D := true }))
    (fun t => (t.X, t.pc, flags t))
    = some (0x0A, 0x0201, [false, false, true, false, false, false]) := by decide

/-- V160: `INC $40`, rule R174. -/
theorem test_v160_inc : see
    (start 0x0200 [0xE6, 0x40] [(0x0040, [0xFF])] (fun s => { s with C := true }))
    (fun t => (t.pc, flags t, t.peek 0x0040))
    = some (0x0202, [false, false, false, false, true, true], 0x00) := by decide

/-- V162: `INC $30FF,X`, rule R174. -/
theorem test_v162_inc : see
    (start 0x0200 [0xFE, 0xFF, 0x30] [(0x3100, [0x00])] (fun s => { s with X := 0x01 }))
    (fun t => (t.pc, flags t, t.peek 0x3100))
    = some (0x0203, [false, false, false, false, false, false], 0x01) := by decide

/-- V163: `DEC $40`, rule R171. -/
theorem test_v163_dec : see
    (start 0x0200 [0xC6, 0x40] [(0x0040, [0x00])] id)
    (fun t => (t.pc, flags t, t.peek 0x0040))
    = some (0x0202, [true, false, false, false, false, false], 0xFF) := by decide

/-- V166: `DEC $FF,X`, rule R171. -/
theorem test_v166_dec : see
    (start 0x0200 [0xD6, 0xFF] [(0x0000, [0x10])] (fun s => { s with X := 0x01 }))
    (fun t => (t.pc, flags t, t.peek 0x0000))
    = some (0x0202, [false, false, false, false, false, false], 0x0F) := by decide

/-- V167: `INX`, rule R175. -/
theorem test_v167_inx : see
    (start 0x0200 [0xE8] [] (fun s => { s with X := 0xFF }))
    (fun t => (t.X, t.pc, flags t))
    = some (0x00, 0x0201, [false, false, false, false, true, false]) := by decide

/-- V169: `DEX`, rule R172. -/
theorem test_v169_dex : see
    (start 0x0200 [0xCA] [] id)
    (fun t => (t.X, t.pc, flags t))
    = some (0xFF, 0x0201, [true, false, false, false, false, false]) := by decide

/-- V170: `DEX`, rule R172. -/
theorem test_v170_dex : see
    (start 0x0200 [0xCA] [] (fun s => { s with X := 0x01, N := true }))
    (fun t => (t.X, t.pc, flags t))
    = some (0x00, 0x0201, [false, false, false, false, true, false]) := by decide

/-- V171: `INY`, rule R176. -/
theorem test_v171_iny : see
    (start 0x0200 [0xC8] [] (fun s => { s with Y := 0xFF, C := true }))
    (fun t => (t.Y, t.pc, flags t))
    = some (0x00, 0x0201, [false, false, false, false, true, true]) := by decide

/-- V172: `DEY`, rule R173. -/
theorem test_v172_dey : see
    (start 0x0200 [0x88] [] id)
    (fun t => (t.Y, t.pc, flags t))
    = some (0xFF, 0x0201, [true, false, false, false, false, false]) := by decide

/-- V173: `DEY`, rule R173. -/
theorem test_v173_dey : see
    (start 0x0200 [0x88] [] (fun s => { s with Y := 0x81 }))
    (fun t => (t.Y, t.pc, flags t))
    = some (0x80, 0x0201, [true, false, false, false, false, false]) := by decide

/-- V181: `JMP ($0120)`, rule R182. -/
theorem test_v181_jmp : see
    (start 0x0200 [0x6C, 0x20, 0x01] [(0x0120, [0x00, 0x40])] id)
    (fun t => (t.pc, t.N, t.Z))
    = some (0x4000, false, false) := by decide

/-- V182: `JMP ($12FF)`, rule R182. -/
theorem test_v182_jmp : see
    (start 0x0200 [0x6C, 0xFF, 0x12] [(0x12FF, [0x00]), (0x1200, [0x40]), (0x1300, [0x50])] id)
    (fun t => (t.pc, t.N, t.Z))
    = some (0x4000, false, false) := by decide

/-- V184: `JSR $4000`, rule R183. -/
theorem test_v184_jsr : see
    (start 0x06FE [0x20, 0x00, 0x40] [] (fun s => { s with S := 0x00 }))
    (fun t => (t.S, t.pc, t.N, t.Z, t.peek 0x0100, t.peek 0x01FF))
    = some (0xFE, 0x4000, false, false, 0x07, 0x00) := by decide

/-- V185: `JSR $1234`, rule R183. -/
theorem test_v185_jsr : see
    (start 0xFFFD [0x20, 0x34, 0x12] [] (fun s => { s with N := true, C := true }))
    (fun t => (t.S, t.pc, t.N, t.Z, t.peek 0x01FF, t.peek 0x01FE))
    = some (0xFD, 0x1234, true, false, 0xFF, 0xFF) := by decide

/-- V187: `RTS`, rule R185. -/
theorem test_v187_rts : see
    (start 0x0200 [0x60] [(0x01FE, [0xFF, 0xFF])] (fun s => { s with S := 0xFD }))
    (fun t => (t.S, t.pc, t.N, t.Z))
    = some (0xFF, 0x0000, false, false) := by decide

/-- V188: `RTS`, rule R185. -/
theorem test_v188_rts : see
    (start 0x0200 [0x60] [(0x0100, [0x10, 0x20])] id)
    (fun t => (t.S, t.pc, t.N, t.Z))
    = some (0x01, 0x2011, false, false) := by decide

/-- V189: `RTI`, rule R184. -/
theorem test_v189_rti : see
    (start 0x0200 [0x40] [(0x01FD, [0xC3, 0x02, 0x06])] (fun s => { s with S := 0xFC }))
    (fun t => (t.S, t.pc, flags t))
    = some (0xFF, 0x0602, [true, true, false, false, true, true]) := by decide

/-- V191: `RTI`, rule R184. -/
theorem test_v191_rti : see
    (start 0x0200 [0x40] [(0x01FF, [0x04]), (0x0100, [0x34, 0x12])] (fun s => { s with S := 0xFE }))
    (fun t => (t.S, t.pc, flags t))
    = some (0x01, 0x1234, [false, false, false, true, false, false]) := by decide

/-- V194: `BRK`, rule R181. -/
theorem test_v194_brk : see
    (start 0x10FF [0x00] [(0xFFFE, [0x34, 0x12])] (fun s => { s with S := 0x01, C := true }))
    (fun t => (t.S, t.pc, flags t, t.peek 0x0101, t.peek 0x0100, t.peek 0x01FF))
    = some (0xFE, 0x1234, [false, false, false, true, false, true], 0x11, 0x01, 0x31) := by decide

/-- V195: `BRK`, rule R181. -/
theorem test_v195_brk : see
    (start 0xEFFF [0x00] [(0xFFFE, [0x00, 0x80])] (fun s => { s with D := true }))
    (fun t => (t.S, t.pc, flags t, t.peek 0x01FF, t.peek 0x01FE, t.peek 0x01FD))
    = some (0xFC, 0x8000, [false, false, true, true, false, false], 0xF0, 0x01, 0x38) := by decide

/-- V200: `BCC $0212`, rule R191. -/
theorem test_v200_bcc : see
    (start 0x0200 [0x90, 0x10] [] id)
    (fun t => t.pc)
    = some 0x0212 := by decide

/-- V201: `BCC $0212`, rule R191. -/
theorem test_v201_bcc : see
    (start 0x0200 [0x90, 0x10] [] (fun s => { s with C := true }))
    (fun t => t.pc)
    = some 0x0202 := by decide

/-- V202: `BCS $0200`, rule R192. -/
theorem test_v202_bcs : see
    (start 0x0200 [0xB0, 0xFE] [] (fun s => { s with C := true }))
    (fun t => t.pc)
    = some 0x0200 := by decide

/-- V203: `BCS $0281`, rule R192. -/
theorem test_v203_bcs : see
    (start 0x0200 [0xB0, 0x7F] [] (fun s => { s with C := true }))
    (fun t => t.pc)
    = some 0x0281 := by decide

/-- V204: `BEQ $0182`, rule R193. -/
theorem test_v204_beq : see
    (start 0x0200 [0xF0, 0x80] [] (fun s => { s with Z := true }))
    (fun t => t.pc)
    = some 0x0182 := by decide

/-- V205: `BEQ $0207`, rule R193. -/
theorem test_v205_beq : see
    (start 0x0200 [0xF0, 0x05] [] id)
    (fun t => t.pc)
    = some 0x0202 := by decide

/-- V206: `BNE $020D`, rule R195. -/
theorem test_v206_bne : see
    (start 0x0210 [0xD0, 0xFB] [] id)
    (fun t => t.pc)
    = some 0x020D := by decide

/-- V208: `BMI $0300`, rule R194. -/
theorem test_v208_bmi : see
    (start 0x02FC [0x30, 0x02] [] (fun s => { s with N := true }))
    (fun t => t.pc)
    = some 0x0300 := by decide

/-- V210: `BPL $02FF`, rule R196. -/
theorem test_v210_bpl : see
    (start 0x0300 [0x10, 0xFD] [] id)
    (fun t => t.pc)
    = some 0x02FF := by decide

/-- V211: `BPL $0222`, rule R196. -/
theorem test_v211_bpl : see
    (start 0x0200 [0x10, 0x20] [] (fun s => { s with N := true }))
    (fun t => t.pc)
    = some 0x0202 := by decide

/-- V212: `BVC $0012`, rule R197. -/
theorem test_v212_bvc : see
    (start 0xFFF0 [0x50, 0x20] [] id)
    (fun t => t.pc)
    = some 0x0012 := by decide

/-- V213: `BVS $FFF2`, rule R198. -/
theorem test_v213_bvs : see
    (start 0x0010 [0x70, 0xE0] [] (fun s => { s with V := true }))
    (fun t => t.pc)
    = some 0xFFF2 := by decide

/-- V214: `BVS $0212`, rule R198. -/
theorem test_v214_bvs : see
    (start 0x0200 [0x70, 0x10] [] id)
    (fun t => t.pc)
    = some 0x0202 := by decide

/-- V215: `BVC $0212`, rule R197. -/
theorem test_v215_bvc : see
    (start 0x0200 [0x50, 0x10] [] (fun s => { s with V := true }))
    (fun t => t.pc)
    = some 0x0202 := by decide

/-- V216: `BNE $0212`, rule R195. -/
theorem test_v216_bne : see
    (start 0x0200 [0xD0, 0x10] [] (fun s => { s with Z := true }))
    (fun t => t.pc)
    = some 0x0202 := by decide

/-- V220: `CLC`, rule R201. -/
theorem test_v220_clc : see
    (start 0x0200 [0x18] [] (fun s => { s with C := true, N := true, Z := true }))
    (fun t => (t.pc, flags t))
    = some (0x0201, [true, false, false, false, true, false]) := by decide

/-- V222: `SEC`, rule R205. -/
theorem test_v222_sec : see
    (start 0x0200 [0x38] [] id)
    (fun t => (t.pc, flags t))
    = some (0x0201, [false, false, false, false, false, true]) := by decide

/-- V223: `CLD`, rule R202. -/
theorem test_v223_cld : see
    (start 0x0200 [0xD8] [] (fun s => { s with D := true, C := true }))
    (fun t => (t.pc, flags t))
    = some (0x0201, [false, false, false, false, false, true]) := by decide

/-- V224: `SED`, rule R206. -/
theorem test_v224_sed : see
    (start 0x0200 [0xF8] [] id)
    (fun t => (t.pc, flags t))
    = some (0x0201, [false, false, true, false, false, false]) := by decide

/-- V225: `CLI`, rule R203. -/
theorem test_v225_cli : see
    (start 0x0200 [0x58] [] (fun s => { s with I := true }))
    (fun t => (t.pc, flags t))
    = some (0x0201, [false, false, false, false, false, false]) := by decide

/-- V226: `SEI`, rule R207. -/
theorem test_v226_sei : see
    (start 0x0200 [0x78] [] id)
    (fun t => (t.pc, flags t))
    = some (0x0201, [false, false, false, true, false, false]) := by decide

/-- V227: `CLV`, rule R204. -/
theorem test_v227_clv : see
    (start 0x0200 [0xB8] [] (fun s => { s with V := true, N := true }))
    (fun t => (t.pc, flags t))
    = some (0x0201, [true, false, false, false, false, false]) := by decide

/-- V228: `NOP`, rule R208. -/
theorem test_v228_nop : see
    (start 0x0200 [0xEA] [] (fun s => { s with A := 0x12, X := 0x34, Y := 0x56, S := 0x78, N := true, V := true, D := true, I := true, Z := true, C := true }))
    (fun t => (t.pc, flags t))
    = some (0x0201, [true, true, true, true, true, true]) := by decide

/-! ## Events (vectors E1 to E11), reset and stops -/

/-- E1: the IRQ is taken; the pushed status is `$A1`. -/
theorem test_e1_irq : see
    (start 0x0300 [0xEA] [(0xFFFE, [0x00, 0x90])]
      (fun s => { s with N := true, C := true, inputs := [{ irqLine := true }] }))
    (fun t => (t.S, t.I, t.pc, t.peek 0x01FF, t.peek 0x01FE, t.peek 0x01FD))
    = some (0xFC, true, 0x9000, 0x03, 0x00, 0xA1) := by decide

/-- E2: with I = 1 the same request is masked and the instruction at pc runs. -/
theorem test_e2_irq_masked : see
    (start 0x0300 [0xEA] [(0xFFFE, [0x00, 0x90])]
      (fun s => { s with I := true, inputs := [{ irqLine := true }] }))
    (fun t => (t.S, t.pc)) = some (0xFF, 0x0301) := by decide

/-- E3: an NMI is taken although I is 1; the pushed status is `$26`. -/
theorem test_e3_nmi : see
    (start 0x0300 [0xEA] [(0xFFFA, [0x00, 0xA0])]
      (fun s => { s with I := true, Z := true, nmiPending := true }))
    (fun t => (t.S, t.pc, t.nmiPending, t.peek 0x01FD)) = some (0xFC, 0xA000, false, 0x26) := by
  decide

/-- E4: the NMI comes before the IRQ. -/
theorem test_e4_nmi_first : see
    (start 0x0300 [0xEA] [(0xFFFA, [0x00, 0xA0]), (0xFFFE, [0x00, 0x90])]
      (fun s => { s with inputs := [{ irqLine := true, nmiEdge := true }] }))
    (fun t => (t.pc, t.I, t.nmiPending)) = some (0xA000, true, false) := by decide

/-- E5: RESET loads pc from its vector and sets I; nothing is pushed. -/
theorem test_e5_reset : see
    (start 0x0300 [0xEA] [(0xFFFC, [0x00, 0x80])]
      (fun s => { s with nmiPending := true, inputs := [{ resetLine := true }] }))
    (fun t => (t.pc, t.I, t.nmiPending, t.peek 0x01FF)) = some (0x8000, true, false, 0) := by decide

/-- E7, outcome (2): with `BrkIrqCollision` restricted to it, the IRQ returns past the BRK. -/
theorem test_e7_brk_ignored : see
    (start 0x0600 [0x00] [(0xFFFE, [0x00, 0x90])]
      (fun s => { s with
        inputs := [{ irqLine := true }]
        cfg := { brkIrqCollision := some .brkIgnored } }))
    (fun t => (t.pc, t.peek 0x01FE, t.peek 0x01FD)) = some (0x9000, 0x02, 0x20) := by decide

/-- E10: a used set-overflow input sets V, an unused one does not. -/
theorem test_e10_set_overflow : see
    (start 0x0300 [0xEA] [] (fun s => { s with
      inputs := [{ setOverflow := true }], cfg := { soPinUsed := true } }))
    (fun t => (t.V, t.pc)) = some (true, 0x0301) := by decide

theorem test_set_overflow_unused : see
    (start 0x0300 [0xEA] [] (fun s => { s with inputs := [{ setOverflow := true }] }))
    (fun t => (t.V, t.pc)) = some (false, 0x0301) := by decide

/-- R222: after SEI, `i_prev` holds the old I. -/
theorem test_i_prev_after_sei : see (start 0x0300 [0x78] [] id) (fun t => (t.iPrev, t.I))
    = some (some false, true) := by decide

/-- V240: an undefined opcode is refused with its byte and address. -/
theorem test_v240_undefined :
    step (start 0x0200 [0x02] [] id) = .refused (.undefinedOpcode 0x02 0x0200) := rfl

/-- R43: an unmapped address and a device raise `Unmapped(addr)`, a write to ROM changes nothing. -/
theorem test_unmapped_refused : step (start 0x0200 [0xAD, 0x00, 0x40] [] (fun s => { s with
      cfg := { memMap := [⟨0x4000, 1, .unmapped⟩] } })) = .refused (.unmapped 0x4000) := rfl

theorem test_device_refused : step (start 0x0200 [0x8D, 0x00, 0x40] [] (fun s => { s with
      cfg := { memMap := [⟨0x4000, 1, .device⟩] } })) = .refused (.unmapped 0x4000) := rfl

theorem test_rom_write_ignored : see (start 0x0200 [0x8D, 0x00, 0x40] [(0x4000, [0x11])]
      (fun s => { s with A := 0x22, cfg := { memMap := [⟨0x4000, 1, .rom⟩] } }))
    (fun t => (t.peek 0x4000, t.pc)) = some (0x11, 0x0203) := by decide

/-- V151 under `DecimalModel = NMOS`: invalid BCD, `0F + 0F`. -/
theorem test_v151_nmos : see (start 0x0200 [0x69, 0x0F] []
      (fun s => { s with A := 0x0F, D := true, cfg := { decimalModel := .nmos } }))
    (fun t => (t.A, t.N, t.V, t.Z, t.C)) = some (0x14, false, false, false, false) := by decide

/-- R89, V7: an indexed read across a page takes 5 cycles. -/
theorem test_cycles_page_crossed :
    (({ State.reset with X := 0x20 } : State).cycles (.ldaAbsX 0x12F0)).toOption = some 5 := by
  decide

/-- V20: an indexed store takes 5 cycles without a crossing. -/
theorem test_cycles_store :
    (({ State.reset with X := 0x05 } : State).cycles (.staAbsX 0x3000)).toOption = some 5 := by
  decide

/-- R258: `JMP` to its own address is a self-jump; `JSR` to its own address is none. -/
theorem test_self_jump : (start 0x0600 [0x4C, 0x00, 0x06] [] id).atSelfJump :=
  ⟨.jmpAbs 0x0600, _, rfl, .inl rfl, rfl, rfl⟩

theorem test_jsr_no_self_jump : ¬(start 0x0600 [0x20, 0x00, 0x06] [] id).atSelfJump := by
  rintro ⟨i, t, hf, hm, -, -⟩
  cases hf
  rcases hm with h | h <;> cases h

/-- R226, R258: a step at a BRK executes it, unless the IRQ is entered first. -/
theorem test_executes_brk : (start 0x0600 [0x00] [] id).executesBrk := ⟨rfl, rfl⟩

theorem test_irq_first_executes_no_brk : ¬(start 0x0600 [0x00] [] (fun s => { s with
    I := false, inputs := [{ irqLine := true }], cfg := { brkIrqCollision := some .irqFirst } })).executesBrk := by
  rintro ⟨h, -⟩
  cases h

/-- `withFetchWord` places the instruction where the first step after reset fetches it. -/
theorem test_with_fetch_word :
    see (State.reset.withFetchWord 16 0x80A9) (fun t => (t.A, t.pc)) = some (0x80, 0x0002) := by
  decide

/-! ## Witnesses: for each obligation with hypotheses, a state and operands that meet them -/

/-- NOP at `$0200`, all RAM, nothing due. -/
def quietState : State := start 0x0200 [0xEA] [] id

/-- Decimal mode with valid BCD in A and `$46` as the immediate operand. -/
def decimalState : State := { quietState with A := 0x58, C := true, D := true }

/-- As `quietState` on a platform with one address of each other kind. -/
def mappedState : State :=
  { quietState with
    cfg := { memMap := [⟨0x4000, 1, .rom⟩, ⟨0x4001, 1, .device⟩, ⟨0x4002, 1, .unmapped⟩] } }

/-- The byte at pc is BRK. -/
def brkState : State := start 0x0600 [0x00] [(0xFFFE, [0x00, 0x90])] id

theorem witness_DecodeInvertsEncode :
    (Instr.ldaAbs 0xFFFF).wellFormed false = true ∧ Instr.rorAcc.wellFormed true = true := by decide

theorem witness_EncodeInvertsDecode :
    decode true [0x6A, 0xEA] = .ok (.rorAcc, [0xEA])
      ∧ decode false [0x20, 0xFF, 0xFF] = .ok (.jsr 0xFFFF, []) := ⟨rfl, rfl⟩

theorem witness_UndefinedOpcodeRefused :
    quietState.quiet ∧ quietState.memRead quietState.pc = .ok 0xEA ∧ (0xEA : Byte) ∉ undefinedOpcodes
      ∧ (start 0x0200 [0x02] [] id).quiet ∧ (start 0x0200 [0x02] [] id).memRead 0x0200 = .ok 0x02
      ∧ (0x02 : Byte) ∈ undefinedOpcodes ∧ (0xFF : Byte) ∈ undefinedOpcodes
      ∧ (0x6A : Byte) ∈ rorOpcodes ∧ (0x6A : Byte) ∉ undefinedOpcodes :=
  ⟨⟨rfl, rfl⟩, rfl, by decide, ⟨rfl, rfl⟩, rfl, by decide, by decide, by decide, by decide⟩

theorem witness_BranchOffsetReachesTarget :
    branchOffset 0x0200 0x0182 = some 0x80 ∧ branchOffset 0x0200 0x0281 = some 0x7F
      ∧ branchOffset 0x0200 0x0181 = none ∧ branchOffset 0x0200 0x0282 = none
      ∧ branchOffset 0xFFF0 0x0012 = some 0x20 := by decide

theorem witness_MemoryReadsBackWrite :
    Memory.wf quietState.mem = true ∧ quietState.kindAt 0xFFFF = .ram
      ∧ quietState.memWrite 0xFFFF 1 = .ok (quietState.stored 0xFFFF 1) := ⟨by decide, rfl, rfl⟩

theorem witness_MemMapKinds :
    mappedState.kindAt 0x3FFF = .ram ∧ mappedState.kindAt 0x4000 = .rom
      ∧ mappedState.kindAt 0x4001 = .device ∧ mappedState.kindAt 0x4002 = .unmapped
      ∧ mappedState.kindAt 0x4003 = .ram
      ∧ ∀ r ∈ mappedState.cfg.memMap,
          ¬(r.base ≤ (0x4003 : Word).toNat ∧ (0x4003 : Word).toNat < r.base + r.size) := by decide

theorem witness_EffectiveAddresses :
    quietState.accessible (BitVec.ofNat 16 ((0xFF + quietState.X.toNat) % 256))
      ∧ quietState.accessible (BitVec.ofNat 16 ((0xFF + quietState.X.toNat + 1) % 256))
      ∧ quietState.accessible (BitVec.ofNat 16 ((0xFF + 1) % 256))
      ∧ quietState.effAddr (.absX 0xFFFF) = .ok 0xFFFF ∧ quietState.accessible 0xFFFF :=
  ⟨.inl rfl, .inl rfl, .inl rfl, rfl, .inl rfl⟩

theorem witness_StackPushPull : Memory.wf quietState.mem = true ∧ quietState.ramStack :=
  ⟨by decide, fun _ => rfl⟩

theorem witness_LoadResults :
    readForm .lda (.mem (.indY 0xFF)) = some (0xB1, .ldaIndY 0xFF)
      ∧ readForm .ldx (.mem (.zpY 0xFF)) = some (0xB6, .ldxZpY 0xFF)
      ∧ readForm .ldy (.imm 0x80) = some (0xA0, .ldyImm 0x80)
      ∧ quietState.readOperand (.mem (.indY 0xFF)) = .ok 0
      ∧ quietState.readOperand (.mem (.zpY 0xFF)) = .ok 0
      ∧ quietState.readOperand (.imm 0x80) = .ok 0x80 := ⟨rfl, rfl, rfl, rfl, rfl, rfl⟩

theorem witness_StoreResults :
    writeForm .sta (.absX 0xFFFF) = some (0x9D, .staAbsX 0xFFFF)
      ∧ writeForm .stx (.zp 0) = some (0x86, .stxZp 0)
      ∧ writeForm .sty (.abs 0xFFFF) = some (0x8C, .styAbs 0xFFFF)
      ∧ quietState.effAddr (.absX 0xFFFF) = .ok 0xFFFF ∧ quietState.effAddr (.zp 0) = .ok 0
      ∧ quietState.effAddr (.abs 0xFFFF) = .ok 0xFFFF ∧ quietState.accessible 0xFFFF
      ∧ quietState.accessible 0 := ⟨rfl, rfl, rfl, rfl, rfl, rfl, .inl rfl, .inl rfl⟩

theorem witness_PushResults :
    quietState.accessible (stackAddr 0xFF)
      ∧ ({ quietState with S := 0 } : State).accessible (stackAddr 0) := ⟨.inl rfl, .inl rfl⟩

theorem witness_PullResults :
    quietState.memRead (stackAddr (quietState.S + 1)) = .ok 0 := rfl

theorem witness_ShiftResults :
    modifyForm .asl .acc = some (0x0A, .aslAcc) ∧ modifyForm .lsr .acc = some (0x4A, .lsrAcc)
      ∧ modifyForm .rol (.mem (.zpX 0xFF)) = some (0x36, .rolZpX 0xFF)
      ∧ modifyForm .ror (.mem (.zpX 0xFF)) = some (0x76, .rorZpX 0xFF)
      ∧ modifyForm .asl (.mem (.zpX 0xFF)) = some (0x16, .aslZpX 0xFF)
      ∧ modifyForm .lsr (.mem (.zpX 0xFF)) = some (0x56, .lsrZpX 0xFF)
      ∧ quietState.effAddr (.zpX 0xFF) = .ok 0x00FF ∧ quietState.accessible 0x00FF :=
  ⟨rfl, rfl, rfl, rfl, rfl, rfl, rfl, .inl rfl⟩

theorem witness_LogicResults :
    readForm .and (.imm 0xFF) = some (0x29, .andImm 0xFF)
      ∧ readForm .eor (.imm 0xFF) = some (0x49, .eorImm 0xFF)
      ∧ readForm .ora (.imm 0xFF) = some (0x09, .oraImm 0xFF)
      ∧ quietState.readOperand (.imm 0xFF) = .ok 0xFF := ⟨rfl, rfl, rfl, rfl⟩

theorem witness_BitResult :
    readForm .bit (.mem (.abs 0x0200)) = some (0x2C, .bitAbs 0x0200)
      ∧ quietState.readOperand (.mem (.abs 0x0200)) = .ok 0xEA := ⟨rfl, rfl⟩

theorem witness_AdcBinaryResult :
    readForm .adc (.imm 0xFF) = some (0x69, .adcImm 0xFF)
      ∧ quietState.readOperand (.imm 0xFF) = .ok 0xFF ∧ quietState.D = false := ⟨rfl, rfl, rfl⟩

theorem witness_SbcBinaryResult :
    readForm .sbc (.imm 0x80) = some (0xE9, .sbcImm 0x80)
      ∧ quietState.readOperand (.imm 0x80) = .ok 0x80 ∧ quietState.D = false := ⟨rfl, rfl, rfl⟩

theorem witness_DecimalDrawResults :
    decimalState.readOperand (.imm 0x46) = .ok 0x46 ∧ decimalState.D = true
      ∧ decimalState.cfg.decimalModel = .draw
      ∧ readForm .adc (.imm 0x46) = some (0x69, .adcImm 0x46)
      ∧ readForm .sbc (.imm 0x46) = some (0xE9, .sbcImm 0x46)
      ∧ validBcd decimalState.A = true ∧ validBcd 0x46 = true ∧ validBcd 0x99 = true
      ∧ validBcd 0x9A = false := ⟨rfl, rfl, rfl, rfl, rfl, by decide, by decide, by decide, by decide⟩

theorem witness_DecimalNmosResults :
    ({ decimalState with cfg := { decimalModel := .nmos } } : State).readOperand (.imm 0x46)
        = .ok 0x46
      ∧ ({ decimalState with cfg := { decimalModel := .nmos } } : State).D = true
      ∧ ({ decimalState with cfg := { decimalModel := .nmos } } : State).cfg.decimalModel = .nmos
      ∧ readForm .adc (.imm 0x46) = some (0x69, .adcImm 0x46)
      ∧ readForm .sbc (.imm 0x46) = some (0xE9, .sbcImm 0x46)
      ∧ validBcd decimalState.A = true ∧ validBcd 0x46 = true ∧ validBcd 0xFF = false
      ∧ readForm .adc (.imm 0xFF) = some (0x69, .adcImm 0xFF) :=
  ⟨rfl, rfl, rfl, rfl, rfl, by decide, by decide, by decide, rfl⟩

theorem witness_CompareResults :
    readForm .cmp (.imm 0x41) = some (0xC9, .cmpImm 0x41)
      ∧ readForm .cpx (.imm 0x41) = some (0xE0, .cpxImm 0x41)
      ∧ readForm .cpy (.imm 0x41) = some (0xC0, .cpyImm 0x41)
      ∧ quietState.readOperand (.imm 0x41) = .ok 0x41 := ⟨rfl, rfl, rfl, rfl⟩

theorem witness_IncDecResults :
    modifyForm .inc (.mem (.absX 0xFFFF)) = some (0xFE, .incAbsX 0xFFFF)
      ∧ modifyForm .dec (.mem (.absX 0xFFFF)) = some (0xDE, .decAbsX 0xFFFF)
      ∧ quietState.effAddr (.absX 0xFFFF) = .ok 0xFFFF ∧ quietState.accessible 0xFFFF :=
  ⟨rfl, rfl, rfl, .inl rfl⟩

theorem witness_BrkResult :
    quietState.accessible (stackAddr quietState.S) ∧ quietState.accessible (stackAddr (quietState.S - 1))
      ∧ quietState.accessible (stackAddr (quietState.S - 2)) ∧ quietState.accessible 0xFFFE
      ∧ quietState.accessible 0xFFFF := ⟨.inl rfl, .inl rfl, .inl rfl, .inl rfl, .inl rfl⟩

theorem witness_JmpResults :
    quietState.cfg.jmpIndirectPageBug = true ∧ quietState.memRead 0x12FF = .ok 0
      ∧ quietState.memRead (BitVec.ofNat 16 (0x12FF / 256 * 256 + (0x12FF % 256 + 1) % 256)) = .ok 0
      ∧ quietState.memRead (BitVec.ofNat 16 (0xFFFF + 1)) = .ok 0 := ⟨rfl, rfl, rfl, rfl⟩

theorem witness_JsrResult :
    quietState.accessible (stackAddr quietState.S)
      ∧ quietState.accessible (stackAddr (quietState.S - 1)) := ⟨.inl rfl, .inl rfl⟩

theorem witness_ReturnResults :
    quietState.memRead (stackAddr (quietState.S + 1)) = .ok 0
      ∧ quietState.memRead (stackAddr (quietState.S + 2)) = .ok 0
      ∧ quietState.memRead (stackAddr (quietState.S + 3)) = .ok 0 := ⟨rfl, rfl, rfl⟩

theorem witness_SbcIsAdcOfComplement :
    quietState.D = false ∧ (∃ t, exec (.sbcImm 0x01) quietState = .next t)
      ∧ ∃ u, exec (.adcImm (0x01 ^^^ 0xFF)) quietState = .next u := ⟨rfl, ⟨_, rfl⟩, ⟨_, rfl⟩⟩

theorem witness_NmosAgreesOnValidBcd :
    adcDecimal 0x99 0x99 true = some (0x99, true)
      ∧ sbcDecimal 0x00 0x99 false = some (0x00, false) := by decide

theorem witness_RorUndoesRol :
    Memory.wf quietState.mem = true ∧ modifyForm .rol (.mem (.zp 0x40)) = some (0x26, .rolZp 0x40)
      ∧ modifyForm .ror (.mem (.zp 0x40)) = some (0x66, .rorZp 0x40)
      ∧ quietState.effAddr (.zp 0x40) = .ok 0x0040 ∧ quietState.kindAt 0x0040 = .ram
      ∧ (∃ t, exec (.rolZp 0x40) quietState = .next t ∧ ∃ u, exec (.rorZp 0x40) t = .next u) :=
  ⟨by decide, rfl, rfl, rfl, rfl, ⟨_, rfl, ⟨_, rfl⟩⟩⟩

theorem witness_DecimalFlagReadOnlyByAddAndSubtract :
    (Instr.cmpImm 0x10).mnemonic ≠ .adc ∧ (Instr.cmpImm 0x10).mnemonic ≠ .sbc
      ∧ (Instr.cmpImm 0x10).mnemonic ≠ .php ∧ (Instr.cmpImm 0x10).mnemonic ≠ .brk
      ∧ ∃ t, exec (.cmpImm 0x10) quietState = .next t :=
  ⟨by decide, by decide, by decide, by decide, ⟨_, rfl⟩⟩

/-- For FlagMatrix, RegisterFrame, StackPointerFrame and HiddenStateFrame: instructions that complete, among them
one of each flag effect and TXS. -/
theorem witness_FlagMatrix :
    (∃ t, exec .lsrAcc quietState = .next t) ∧ flagEffect .lsr .N = .constant false
      ∧ flagEffect .lsr .C = .computed ∧ flagEffect .lsr .V = .unchanged :=
  ⟨⟨_, rfl⟩, rfl, rfl, rfl⟩

theorem witness_RegisterFrame :
    (∃ t, exec .nop quietState = .next t) ∧ Instr.writesA .nop = false ∧ Instr.writesX .nop = false
      ∧ Instr.writesY .nop = false := ⟨⟨_, rfl⟩, rfl, rfl, rfl⟩

theorem witness_StackPointerFrame :
    (∃ t, exec .txs quietState = .next t) ∧ ∃ t, exec .brk quietState = .next t :=
  ⟨⟨_, rfl⟩, ⟨_, rfl⟩⟩

theorem witness_PcAdvance :
    Instr.writesPc (.ldaAbs 0) = false ∧ ∃ t, exec (.ldaAbs 0) quietState = .next t :=
  ⟨rfl, ⟨_, rfl⟩⟩

theorem witness_NonStoringMemoryFrame :
    Instr.mayStore (.cmpImm 1) = false ∧ ∃ t, exec (.cmpImm 1) quietState = .next t :=
  ⟨rfl, ⟨_, rfl⟩⟩

theorem witness_OperandStoreFrame :
    Memory.wf quietState.mem = true ∧ writeForm .sta (.zp 0xFF) = some (0x85, .staZp 0xFF)
      ∧ modifyForm .inc (.mem (.zp 0xFF)) = some (0xE6, .incZp 0xFF)
      ∧ quietState.effAddr (.zp 0xFF) = .ok 0x00FF
      ∧ (∃ t, exec (.staZp 0xFF) quietState = .next t)
      ∧ ∃ t, exec (.incZp 0xFF) quietState = .next t :=
  ⟨by decide, rfl, rfl, rfl, ⟨_, rfl⟩, ⟨_, rfl⟩⟩

theorem witness_PushFrame :
    Memory.wf quietState.mem = true ∧ (∃ t, exec .pha quietState = .next t)
      ∧ (∃ t, exec (.jsr 0) quietState = .next t) ∧ (∃ t, exec .brk quietState = .next t)
      ∧ (0x0200 : Word) ≠ stackAddr quietState.S ∧ (0x0200 : Word) ≠ stackAddr (quietState.S - 1)
      ∧ (0x0200 : Word) ≠ stackAddr (quietState.S - 2) :=
  ⟨by decide, ⟨_, rfl⟩, ⟨_, rfl⟩, ⟨_, rfl⟩, by decide, by decide, by decide⟩

theorem witness_HiddenStateFrame :
    (∃ t, exec .brk quietState = .next t) ∧ quietState.D = false
      ∧ ∃ t, exec (.adcImm 1) quietState = .next t := ⟨⟨_, rfl⟩, rfl, ⟨_, rfl⟩⟩

theorem witness_EveryInstructionCompletes : quietState.plainMap := fun _ => .inl rfl

theorem witness_StopsOnlyAtHoles :
    exec (.ldaAbs 0x4002) mappedState = .refused (.unmapped 0x4002)
      ∧ exec (.ldaAbs 0x4001) mappedState = .refused (.unmapped 0x4001) := ⟨rfl, rfl⟩

theorem witness_OperandStops :
    mappedState.readOperand (.mem (.abs 0x4002)) = .error (.unmapped 0x4002)
      ∧ mappedState.writeOperand (.abs 0x4001) 0 = .error (.unmapped 0x4001)
      ∧ readForm .lda (.mem (.abs 0x4002)) = some (0xAD, .ldaAbs 0x4002)
      ∧ writeForm .sta (.abs 0x4001) = some (0x8D, .staAbs 0x4001)
      ∧ modifyForm .asl (.mem (.abs 0x4002)) = some (0x0E, .aslAbs 0x4002) :=
  ⟨rfl, rfl, rfl, rfl, rfl⟩

theorem witness_StepRunsDecodedInstruction :
    quietState.quiet
      ∧ decode quietState.cfg.hasROR [quietState.peek quietState.pc, quietState.peek (quietState.pc + 1),
          quietState.peek (quietState.pc + 2)] = .ok (.nop, [0, 0])
      ∧ quietState.accessible quietState.pc ∧ quietState.accessible (quietState.pc + 1)
      ∧ quietState.accessible (quietState.pc + 2) := ⟨⟨rfl, rfl⟩, rfl, .inl rfl, .inl rfl, .inl rfl⟩

theorem witness_InputsTakeEffectAtBoundary :
    ({ quietState with inputs := [{ nmiEdge := true, setOverflow := true }] } : State).inputs
      = { nmiEdge := true, setOverflow := true } :: [] := rfl

theorem witness_ResetTaken :
    ({ quietState with inputs := [{ resetLine := true }] } : State).nextInput.resetLine = true
      ∧ quietState.accessible 0xFFFC ∧ quietState.accessible 0xFFFD := ⟨rfl, .inl rfl, .inl rfl⟩

theorem witness_NmiTaken :
    quietState.nextInput.resetLine = false
      ∧ (({ quietState with nmiPending := true } : State).nmiPending
          || quietState.nextInput.nmiEdge) = true
      ∧ ∃ t, ({ quietState with nmiPending := true } : State).sample.enter 0xFFFA false 0x0200 = .ok t :=
  ⟨rfl, rfl, ⟨_, rfl⟩⟩

theorem witness_IrqRecognition :
    let s : State := { quietState with inputs := [{ irqLine := true }] }
    s.nextInput.resetLine = false ∧ s.nmiPending = false ∧ s.nextInput.nmiEdge = false
      ∧ s.iPrev = none ∧ s.nextInput.irqLine = true ∧ s.I = false ∧ s.memRead s.pc = .ok 0xEA
      ∧ ({ s with I := true } : State).I = true := ⟨rfl, rfl, rfl, rfl, rfl, rfl, rfl, rfl⟩

theorem witness_MaskAfterFlagChange :
    let s : State := { quietState with inputs := [{ irqLine := true }], iPrev := some true }
    s.nextInput.resetLine = false ∧ s.nmiPending = false ∧ s.nextInput.nmiEdge = false
      ∧ s.nextInput.irqLine = true ∧ s.iPrev = some true ∧ s.memRead s.pc = .ok 0xEA :=
  ⟨rfl, rfl, rfl, rfl, rfl, rfl⟩

theorem witness_BrkIrqCollision :
    let s : State := { brkState with inputs := [{ irqLine := true }] }
    s.nextInput.resetLine = false ∧ s.nmiPending = false ∧ s.nextInput.nmiEdge = false
      ∧ s.nextInput.irqLine = true ∧ s.iPrev = none ∧ s.I = false ∧ s.memRead s.pc = .ok 0 :=
  ⟨rfl, rfl, rfl, rfl, rfl, rfl, rfl⟩

theorem witness_EntryEffect :
    Memory.wf quietState.mem = true ∧ quietState.ramStack ∧ quietState.accessible 0xFFFA
      ∧ quietState.accessible (0xFFFA + 1) ∧ quietState.accessible 0xFFFE
      ∧ quietState.accessible (0xFFFE + 1) :=
  ⟨by decide, fun _ => rfl, .inl rfl, .inl rfl, .inl rfl, .inl rfl⟩

theorem witness_RtiUndoesEntry :
    Memory.wf quietState.mem = true ∧ quietState.ramStack
      ∧ ∃ t u : State, quietState.enter 0xFFFE false 0x0200 = .ok t ∧ u.S = t.S ∧ u.cfg = t.cfg
        ∧ SameStack t u := ⟨by decide, fun _ => rfl, _, _, rfl, rfl, rfl, fun _ => rfl⟩

theorem witness_RtsUndoesJsr :
    Memory.wf quietState.mem = true ∧ quietState.ramStack
      ∧ ∃ t u : State, exec (.jsr 0x4000) quietState = .next t ∧ u.S = t.S ∧ u.cfg = t.cfg
        ∧ SameStack t u := ⟨by decide, fun _ => rfl, _, _, rfl, rfl, rfl, fun _ => rfl⟩

/-- For StepKeepsInvariant, StepHousekeeping and StepIsEventOrInstruction. -/
theorem witness_StepKeepsInvariant : quietState.Inv ∧ ∃ t, step quietState = .next t :=
  ⟨⟨by decide, fun _ => rfl⟩, ⟨_, rfl⟩⟩

theorem witness_StepHousekeeping : ∃ t, step quietState = .next t := ⟨_, rfl⟩

theorem witness_StepIsEventOrInstruction : ∃ t, step brkState = .next t := ⟨_, rfl⟩

theorem witness_CycleCounts :
    Mnemonic.lda ∈ readMnemonics ∧ Mnemonic.sta ∈ writeMnemonics ∧ Mnemonic.dec ∈ modifyMnemonics
      ∧ (Instr.ldaIndY 0xFF).mode = .indY ∧ (Instr.ldaIndY 0xFF).operand = .byte 0xFF
      ∧ (quietState.memRead (BitVec.ofNat 16 (0xFF : Byte).toNat)).toOption = some 0
      ∧ (quietState.memRead (BitVec.ofNat 16 (((0xFF : Byte).toNat + 1) % 256))).toOption = some 0
      ∧ (quietState.cycles (.ldaAbsX 0x12F0)).toOption = some 4
      ∧ (({ quietState with X := 0x20 } : State).cycles (.ldaAbsX 0x12F0)).toOption = some 5
      ∧ (({ quietState with C := true } : State).cycles (.bcs 0xFE)).toOption = some 3
      ∧ (({ quietState with C := true } : State).cycles (.bcs 0x80)).toOption = some 4
      ∧ (quietState.cycles (.bcs 0x80)).toOption = some 2
      ∧ (quietState.cycles .brk).toOption = some 7 := by decide

end Sys2Proof.Tests
end

section
/-! SUPPORT. The stack operations where they complete (R6, R26, R28): one equation for a push, one for a
pull, and what a push leaves in memory; with them the statements about the stack and the stack
instructions. -/

namespace Sys2Proof.Machine

/-! ## The addresses of the stack page -/

/-- R26: the stack page starts at 256. -/
theorem stackAddr_toNat (sp : Byte) : (stackAddr sp).toNat = 256 + sp.toNat := by
  simp [stackAddr, mkWord_toNat]

theorem eq_stackAddr_iff {a : Word} {sp : Byte} : a = stackAddr sp ↔ a.toNat = 256 + sp.toNat := by
  rw [← stackAddr_toNat, BitVec.toNat_inj]

/-- R28: one above the top of the page is its bottom. -/
theorem stackAddr_add_one (sp : Byte) :
    stackAddr (sp + 1) = BitVec.ofNat 16 (256 + (sp.toNat + 1) % 256) := by
  apply BitVec.eq_of_toNat_eq
  rw [stackAddr_toNat, BitVec.toNat_add, BitVec.toNat_ofNat]
  change 256 + (sp.toNat + 1) % 256 = _
  omega

theorem accessible_stackAddr_of_ramStack {s : State} (h : s.ramStack) (sp : Byte) :
    s.accessible (stackAddr sp) := .inl (h sp)

/-! ## A push and a pull that complete -/

theorem push_of_accessible {s : State} (h : s.accessible (stackAddr s.S)) (v : Byte) :
    s.push v = .ok (s.pushed v) := push_ok_iff.2 ⟨h, rfl⟩

theorem pull_of_memRead {s : State} {v : Byte} (h : s.memRead (stackAddr (s.S + 1)) = .ok v) :
    s.pull = .ok (v, s.setS (s.S + 1)) := by
  obtain ⟨hacc, hv⟩ := memRead_ok_iff.1 h
  exact pull_ok_iff.2 ⟨hacc, hv, rfl⟩

/-- A push on RAM changes the byte at the stack pointer and no other. -/
theorem peek_pushed {s : State} (hwf : Memory.wf s.mem = true)
    (hram : s.kindAt (stackAddr s.S) = .ram) (v : Byte) (a : Word) :
    (s.pushed v).peek a = if a = stackAddr s.S then v else s.peek a := by
  split
  · next ha => rw [ha, peek_pushed_self hwf hram]
  · next ha => exact peek_pushed_ne hwf ha v

/-- A pull gives back the byte just pushed, and the stack pointer from before. -/
theorem pull_pushed {s : State} (hwf : Memory.wf s.mem = true)
    (hram : s.kindAt (stackAddr s.S) = .ram) (v : Byte) :
    (s.pushed v).pull = .ok (v, { s with mem := (s.pushed v).mem }) := by
  have hS : (s.pushed v).S + 1 = s.S := BitVec.sub_add_cancel s.S 1
  have hread : (s.pushed v).memRead (stackAddr ((s.pushed v).S + 1)) = .ok v := by
    rw [hS]
    exact memRead_ok_iff.2 ⟨.inl hram, (peek_pushed_self hwf hram v).symm⟩
  rw [pull_of_memRead hread, hS]
  rfl

/-- Settles O9: the push completes in `s.pushed v`, and each clause is the law of that state. -/
theorem stackPushPull : Obligations.StackPushPull := by
  intro s v hwf hram
  have hacc := accessible_stackAddr_of_ramStack hram
  have hS : s.S + 1 = BitVec.ofNat 8 (s.S.toNat + 1) := by bv_omega
  refine ⟨s.pushed v, push_of_accessible (hacc s.S) v, ?pointer, ?bytes,
    pull_pushed hwf (hram s.S) v, s.setS (s.S + 1), ?pulled, by rw [hS]; rfl⟩
  case pointer => rw [State.pushed_S]; bv_omega
  case bytes =>
    intro a
    rw [peek_pushed hwf (hram s.S)]
    simp only [eq_stackAddr_iff]
  case pulled =>
    rw [← stackAddr_add_one]
    exact pull_of_memRead (memRead_of_accessible (hacc _))

/-! ## The stack instructions -/

theorem pushByte_of_accessible {s : State} (h : s.accessible (stackAddr s.S)) (v : Byte) :
    pushByte v s = .ok ((s.pushed v).advance 1) := by
  rw [pushByte, push_of_accessible h, ok_bind]

theorem pullByte_of_memRead {s : State} {v : Byte} (put : State → Byte → State)
    (h : s.memRead (stackAddr (s.S + 1)) = .ok v) :
    pullByte put s = .ok ((put (s.setS (s.S + 1)) v).advance 1) := by
  rw [pullByte, pull_of_memRead h, ok_bind]

theorem exec_pha {s : State} (h : s.accessible (stackAddr s.S)) :
    exec .pha s = .next ((s.pushed s.A).advance 1) := by
  change finish (pushByte s.A s) = _
  rw [pushByte_of_accessible h, finish_ok]

theorem exec_php {s : State} (h : s.accessible (stackAddr s.S)) :
    exec .php s = .next ((s.pushed (s.statusByte true)).advance 1) := by
  change finish (pushByte (s.statusByte true) s) = _
  rw [pushByte_of_accessible h, finish_ok]

theorem exec_pla {s : State} {v : Byte} (h : s.memRead (stackAddr (s.S + 1)) = .ok v) :
    exec .pla s = .next ((((s.setS (s.S + 1)).setA v).setNZ v).advance 1) := by
  change finish (pullByte (fun t v => (t.setA v).setNZ v) s) = _
  rw [pullByte_of_memRead _ h, finish_ok]

theorem exec_plp {s : State} {v : Byte} (h : s.memRead (stackAddr (s.S + 1)) = .ok v) :
    exec .plp s = .next (((s.setS (s.S + 1)).setP v).advance 1) := by
  change finish (pullByte State.setP s) = _
  rw [pullByte_of_memRead _ h, finish_ok]

/-- R6 `setNZ(v)`, with N as bit 7 and Z as a decision. -/
theorem setNZ_eq (s : State) (v : Byte) :
    s.setNZ v = { s with N := v.getLsbD 7, Z := decide (v = 0) } := by
  rw [State.setNZ, byte_msb, byte_beq]

/-- Settles O13: the pushed status byte is `statusByte`, read bit by bit. -/
theorem pushResults : Obligations.PushResults := by
  refine ⟨rfl, rfl, fun s h => ⟨exec_pha h, s.statusByte true, exec_php h, ?_⟩⟩
  exact statusByte_bits s true

/-- Settles O14. -/
theorem pullResults : Obligations.PullResults := by
  refine ⟨rfl, rfl, fun s v h => ⟨?_, exec_plp h⟩⟩
  rw [exec_pla h, setNZ_eq]
  rfl

end Sys2Proof.Machine
end

section
/-! SUPPORT. A step with nothing due at the boundary (R7): the boundary passes the state on with its inputs
consumed, the fetch agrees with the decoder, and the instruction runs. And the state after reset (R34). -/

namespace Sys2Proof

/-- R70, R72: each instruction of the form is as long as the opcode and the form's operand bytes. -/
def Form.HasLength : Form → Prop
  | .implied i => i.length = 1
  | .byte f => ∀ b, (f b).length = 2
  | .word f => ∀ a, (f a).length = 3

/-- The forms of the opcode table agree with the addressing modes of their instructions, row by row. -/
theorem decodeOpcode_hasLength {hasROR : Bool} {opc : Byte} {form : Form}
    (h : decodeOpcode hasROR opc = some form) : form.HasLength := by
  unfold decodeOpcode at h
  split at h
  all_goals cases hasROR <;> cases h
  all_goals simp only [Form.HasLength]; intros; rfl

/-- R70: the opcode selects the form, and the bytes after it complete the form. -/
theorem decode_cons_ok_iff {hasROR : Bool} {opc : Byte} {bytes rest : List Byte} {i : Instr} :
    decode hasROR (opc :: bytes) = .ok (i, rest) ↔
      ∃ form, decodeOpcode hasROR opc = some form ∧ form.complete bytes = .ok (i, rest) := by
  cases hform : decodeOpcode hasROR opc <;> simp [decode, hform]

end Sys2Proof

namespace Sys2Proof.Machine

/-! ## The fetch -/

theorem fetch_of_decodeOpcode {s : State} {form : Form} (hpc : s.accessible s.pc)
    (h : decodeOpcode s.cfg.hasROR (s.peek s.pc) = some form) : s.fetch = s.fetchOperand form := by
  simp [State.fetch, memRead_of_accessible hpc, h]

/-- The fetch reads the operand bytes with which the decoder completes the form; where the instruction has
those bytes, they must be accessible. -/
theorem fetchOperand_of_complete {s : State} {form : Form} {i : Instr} {rest : List Byte}
    (hlen : form.HasLength)
    (h : form.complete [s.peek (s.pc + 1), s.peek (s.pc + 2)] = .ok (i, rest))
    (h1 : 2 ≤ i.length → s.accessible (s.pc + 1)) (h2 : 3 ≤ i.length → s.accessible (s.pc + 2)) :
    s.fetchOperand form = .ok i := by
  cases form with
  | implied j =>
    cases h
    rfl
  | byte f =>
    cases h
    have hacc := h1 (hlen _).ge
    rw [State.fetchOperand, memRead_of_accessible hacc, ok_bind]
  | word f =>
    cases h
    have hacc1 := h1 (by rw [hlen]; decide)
    have hacc2 := h2 (hlen _).ge
    rw [State.fetchOperand, memRead_of_accessible hacc1, ok_bind, memRead_of_accessible hacc2, ok_bind]

theorem fetch_of_decode {s : State} {i : Instr} {rest : List Byte}
    (hdec : decode s.cfg.hasROR [s.peek s.pc, s.peek (s.pc + 1), s.peek (s.pc + 2)] = .ok (i, rest))
    (hpc : s.accessible s.pc) (h1 : 2 ≤ i.length → s.accessible (s.pc + 1))
    (h2 : 3 ≤ i.length → s.accessible (s.pc + 2)) : s.fetch = .ok i := by
  obtain ⟨form, hform, hcomplete⟩ := decode_cons_ok_iff.1 hdec
  rw [fetch_of_decodeOpcode hpc hform]
  exact fetchOperand_of_complete (decodeOpcode_hasLength hform) hcomplete h1 h2

/-- The fetch does not look at the inputs. -/
theorem fetch_inputs (s : State) (bs : List BoundaryInput) :
    ({ s with inputs := bs } : State).fetch = s.fetch := rfl

/-! ## The quiet boundary -/

theorem sample_of_quiet {s : State} (h : s.quiet) :
    s.sample = { s with inputs := s.inputs.tail } := by
  obtain ⟨hinput, hnmi⟩ := h
  simp [State.sample, hinput, hnmi]

theorem boundary_of_quiet {s : State} (h : s.quiet) :
    s.boundary = (.run, { s with inputs := s.inputs.tail }) := by
  rw [State.boundary, sample_of_quiet h, h.1]
  exact choose_quiet rfl rfl h.2

theorem step_of_quiet {s : State} (h : s.quiet) :
    step s = ({ s with inputs := s.inputs.tail } : State).runInstruction :=
  step_of_run (boundary_of_quiet h)

/-! ## The end of the instruction -/

/-- R222: `retire` with the three mnemonics written out. -/
theorem retire_eq (s t : State) (i : Instr) :
    s.retire i t = { t with
      iPrev := if s.cfg.iFlagDelay = true
          ∧ (i.mnemonic = .cli ∨ i.mnemonic = .sei ∨ i.mnemonic = .plp)
        then some s.I else none } := by
  simp [State.retire, Instr.delaysMask, or_assoc]

/-- Settles O46: the quiet boundary runs the fetched instruction, and the fetch gives the decoded one. -/
theorem stepRunsDecodedInstruction : Obligations.StepRunsDecodedInstruction := by
  intro s i rest hquiet hdec hpc h1 h2
  have hfetch : ({ s with inputs := s.inputs.tail } : State).fetch = .ok i :=
    (fetch_inputs s _).trans (fetch_of_decode hdec hpc h1 h2)
  rw [step_of_quiet hquiet, runInstruction_of_fetch hfetch, State.execute]
  cases exec i { s with inputs := s.inputs.tail } with
  | next t => exact congrArg Host.Outcome.next (retire_eq _ t i)
  | fault f => rfl
  | refused r => rfl

/-! ## The state after reset -/

/-- R43: a map without regions is RAM everywhere. -/
theorem kindAt_of_memMap_nil {s : State} (h : s.cfg.memMap = []) (a : Word) : s.kindAt a = .ram := by
  rw [State.kindAt, h, kindIn]

/-- Nothing is listed, and `i_prev` is none whatever the parameters are. -/
theorem reset_inv : State.reset.Inv := ⟨rfl, fun _ => rfl⟩

/-- Settles O57. -/
theorem resetStateHolds : Obligations.ResetStateHolds :=
  ⟨reset_inv, rfl, rfl, rfl, rfl, rfl, rfl, rfl, rfl, rfl, rfl, kindAt_of_memMap_nil rfl⟩

end Sys2Proof.Machine
end

section
/-! SUPPORT. What an instruction that completes does, once for each way an instruction treats its operand
(R74): the rows of R97 with their effects, and one inversion of `exec` over all 151 instructions. The frames
of the next sections are read off it, case by case. -/

namespace Sys2Proof.Machine

/-! ## The effects, mnemonic by mnemonic

These functions say nothing outside the mnemonics of their kind; `ReadRow`, `WriteRow` and `ModifyRow` tie
them to `exec`. -/

/-- What a reading instruction does with its operand, but for pc. -/
def readEffect : Mnemonic → State → Byte → State
  | .lda, s, v => (s.setA v).setNZ v
  | .ldx, s, v => (s.setX v).setNZ v
  | .ldy, s, v => (s.setY v).setNZ v
  | .and, s, v => (s.setA (s.A &&& v)).setNZ (s.A &&& v)
  | .ora, s, v => (s.setA (s.A ||| v)).setNZ (s.A ||| v)
  | .eor, s, v => (s.setA (s.A ^^^ v)).setNZ (s.A ^^^ v)
  | .adc, s, v => s.adc v
  | .sbc, s, v => s.sbc v
  | .cmp, s, v => s.setCompare s.A v
  | .cpx, s, v => s.setCompare s.X v
  | .cpy, s, v => s.setCompare s.Y v
  | .bit, s, v => s.setBitTest v
  | _, s, _ => s

/-- The register a store writes to memory. -/
def storedRegister : Mnemonic → State → Byte
  | .sta, s => s.A
  | .stx, s => s.X
  | .sty, s => s.Y
  | _, _ => 0

/-- The new byte a read-modify-write instruction makes of the operand `v`; `c` is the carry before. -/
def modifyResult : Mnemonic → Bool → Byte → Byte
  | .asl, c, v => (aslByte v c).value
  | .lsr, c, v => (lsrByte v c).value
  | .rol, c, v => (rolByte v c).value
  | .ror, c, v => (rorByte v c).value
  | .inc, _, v => v + 1
  | .dec, _, v => v - 1
  | _, _, v => v

/-- The flags a read-modify-write instruction sets in `t` from the operand `v`; `c` is the carry before. -/
def modifyFlags : Mnemonic → Bool → Byte → State → State
  | .asl, c, v, t => t.setShift (aslByte v c)
  | .lsr, c, v, t => t.setShift (lsrByte v c)
  | .rol, c, v, t => t.setShift (rolByte v c)
  | .ror, c, v, t => t.setShift (rorByte v c)
  | .inc, _, v, t => t.setNZ (v + 1)
  | .dec, _, v, t => t.setNZ (v - 1)
  | _, _, _, t => t

/-- The instructions of one byte that work on registers and flags alone (R110, R170, R200), with their
effect but for pc. -/
def impliedEffect : Instr → Option (State → State)
  | .tax => some fun s => (s.setX s.A).setNZ s.A
  | .tay => some fun s => (s.setY s.A).setNZ s.A
  | .tsx => some fun s => (s.setX s.S).setNZ s.S
  | .txa => some fun s => (s.setA s.X).setNZ s.X
  | .txs => some fun s => s.setS s.X
  | .tya => some fun s => (s.setA s.Y).setNZ s.Y
  | .dex => some fun s => (s.setX (s.X - 1)).setNZ (s.X - 1)
  | .dey => some fun s => (s.setY (s.Y - 1)).setNZ (s.Y - 1)
  | .inx => some fun s => (s.setX (s.X + 1)).setNZ (s.X + 1)
  | .iny => some fun s => (s.setY (s.Y + 1)).setNZ (s.Y + 1)
  | .clc => some fun s => s.setC false
  | .cld => some fun s => s.setD false
  | .cli => some fun s => s.setI false
  | .clv => some fun s => s.setV false
  | .sec => some fun s => s.setC true
  | .sed => some fun s => s.setD true
  | .sei => some fun s => s.setI true
  | .nop => some fun s => s
  | _ => none

/-- The branches (R191 to R198): the offset byte and the condition. -/
def branchCondition : Instr → Option (Byte × (State → Bool))
  | .bcc off => some (off, fun s => !s.C)
  | .bcs off => some (off, fun s => s.C)
  | .beq off => some (off, fun s => s.Z)
  | .bmi off => some (off, fun s => s.N)
  | .bne off => some (off, fun s => !s.Z)
  | .bpl off => some (off, fun s => !s.N)
  | .bvc off => some (off, fun s => !s.V)
  | .bvs off => some (off, fun s => s.V)
  | _ => none

/-! ## The rows of R97 -/

/-- What a row of a reading instruction says of its instruction. -/
structure ReadRow (m : Mnemonic) (o : ReadOperand) (opc : Byte) (i : Instr) : Prop where
  mnemonic : i.mnemonic = m
  reads : m ∈ readMnemonics
  length : BitVec.ofNat 16 i.length = o.length
  encoding : encode i = opc :: o.field.bytes
  exec_eq : ∀ s, exec i s = finish do
    let v ← s.readOperand o
    .ok ((readEffect m s v).advance o.length)

theorem readRow_of_readForm {m : Mnemonic} {o : ReadOperand} {opc : Byte} {i : Instr}
    (h : readForm m o = some (opc, i)) : ReadRow m o opc i := by
  cases o with
  | imm v => cases m <;> cases h <;> exact ⟨rfl, by decide, rfl, rfl, fun _ => rfl⟩
  | mem o => cases m <;> cases o <;> cases h <;> exact ⟨rfl, by decide, rfl, rfl, fun _ => rfl⟩

/-- What a row of a storing instruction says of its instruction. -/
structure WriteRow (m : Mnemonic) (o : MemOperand) (opc : Byte) (i : Instr) : Prop where
  mnemonic : i.mnemonic = m
  writes : m ∈ writeMnemonics
  length : BitVec.ofNat 16 i.length = o.length
  encoding : encode i = opc :: o.field.bytes
  exec_eq : ∀ s, exec i s = finish do
    let t ← s.writeOperand o (storedRegister m s)
    .ok (t.advance o.length)

theorem writeRow_of_writeForm {m : Mnemonic} {o : MemOperand} {opc : Byte} {i : Instr}
    (h : writeForm m o = some (opc, i)) : WriteRow m o opc i := by
  cases m <;> cases o <;> cases h <;> exact ⟨rfl, by decide, rfl, rfl, fun _ => rfl⟩

/-- What a row of a read-modify-write instruction says of its instruction. -/
structure ModifyRow (m : Mnemonic) (o : RmwOperand) (opc : Byte) (i : Instr) : Prop where
  mnemonic : i.mnemonic = m
  modifies : m ∈ modifyMnemonics
  length : BitVec.ofNat 16 i.length = o.length
  encoding : encode i = opc :: o.field.bytes
  writesA : Instr.writesA i = decide (o = .acc)
  exec_eq : ∀ s, exec i s = finish do
    let t ← s.modifyOperand o (modifyResult m s.C) (modifyFlags m s.C)
    .ok (t.advance o.length)

theorem modifyRow_of_modifyForm {m : Mnemonic} {o : RmwOperand} {opc : Byte} {i : Instr}
    (h : modifyForm m o = some (opc, i)) : ModifyRow m o opc i := by
  cases o with
  | acc => cases m <;> cases h <;> exact ⟨rfl, by decide, rfl, rfl, rfl, fun _ => rfl⟩
  | mem o =>
    cases m <;> cases o <;> cases h <;> exact ⟨rfl, by decide, rfl, rfl, rfl, fun _ => rfl⟩

/-! ## The instructions without a memory operand -/

theorem exec_of_impliedEffect {i : Instr} {f : State → State} (h : impliedEffect i = some f)
    (s : State) : exec i s = .next ((f s).advance 1) := by
  unfold impliedEffect at h
  split at h
  all_goals cases h <;> rfl

theorem exec_of_branchCondition {i : Instr} {off : Byte} {taken : State → Bool}
    (h : branchCondition i = some (off, taken)) (s : State) :
    exec i s = .next (if taken s then s.setPc (branchTarget s.pc off) else s.advance 2) := by
  unfold branchCondition at h
  split at h
  all_goals cases h <;> rfl

/-! ## Every instruction has its kind -/

/-- How an instruction treats its operand: it stands in a row of R97, or works on registers and flags alone,
or is a branch, or one of the ten that use the stack or write pc. -/
inductive Kind : Instr → Prop where
  | read {i : Instr} {opc : Byte} (o : ReadOperand) :
      readForm i.mnemonic o = some (opc, i) → Kind i
  | write {i : Instr} {opc : Byte} (o : MemOperand) :
      writeForm i.mnemonic o = some (opc, i) → Kind i
  | modify {i : Instr} {opc : Byte} (o : RmwOperand) :
      modifyForm i.mnemonic o = some (opc, i) → Kind i
  | implied {i : Instr} {f : State → State} : impliedEffect i = some f → Kind i
  | branch {i : Instr} {off : Byte} {taken : State → Bool} :
      branchCondition i = some (off, taken) → Kind i
  | pha : Kind .pha
  | php : Kind .php
  | pla : Kind .pla
  | plp : Kind .plp
  | jmpAbs (a : Word) : Kind (.jmpAbs a)
  | jmpInd (a : Word) : Kind (.jmpInd a)
  | jsr (a : Word) : Kind (.jsr a)
  | rts : Kind .rts
  | rti : Kind .rti
  | brk : Kind .brk

theorem Kind.of (i : Instr) : Kind i := by
  cases i with
  | ldaImm m | ldxImm m | ldyImm m | andImm m | eorImm m | oraImm m | adcImm m | cmpImm m
  | cpxImm m | cpyImm m | sbcImm m => exact .read (.imm m) rfl
  | ldaZp z | ldxZp z | ldyZp z | andZp z | bitZp z | eorZp z | oraZp z | adcZp z | cmpZp z
  | cpxZp z | cpyZp z | sbcZp z => exact .read (.mem (.zp z)) rfl
  | ldaZpX z | ldyZpX z | andZpX z | eorZpX z | oraZpX z | adcZpX z | cmpZpX z | sbcZpX z =>
    exact .read (.mem (.zpX z)) rfl
  | ldaAbs a | ldxAbs a | ldyAbs a | andAbs a | bitAbs a | eorAbs a | oraAbs a | adcAbs a
  | cmpAbs a | cpxAbs a | cpyAbs a | sbcAbs a => exact .read (.mem (.abs a)) rfl
  | ldaAbsX a | ldyAbsX a | andAbsX a | eorAbsX a | oraAbsX a | adcAbsX a | cmpAbsX a
  | sbcAbsX a => exact .read (.mem (.absX a)) rfl
  | ldaAbsY a | ldxAbsY a | andAbsY a | eorAbsY a | oraAbsY a | adcAbsY a | cmpAbsY a
  | sbcAbsY a => exact .read (.mem (.absY a)) rfl
  | ldaIndX z | andIndX z | eorIndX z | oraIndX z | adcIndX z | cmpIndX z | sbcIndX z =>
    exact .read (.mem (.indX z)) rfl
  | ldaIndY z | andIndY z | eorIndY z | oraIndY z | adcIndY z | cmpIndY z | sbcIndY z =>
    exact .read (.mem (.indY z)) rfl
  | ldxZpY z => exact .read (.mem (.zpY z)) rfl
  | staZp z | stxZp z | styZp z => exact .write (.zp z) rfl
  | staZpX z | styZpX z => exact .write (.zpX z) rfl
  | staAbs a | stxAbs a | styAbs a => exact .write (.abs a) rfl
  | staAbsX a => exact .write (.absX a) rfl
  | staAbsY a => exact .write (.absY a) rfl
  | staIndX z => exact .write (.indX z) rfl
  | staIndY z => exact .write (.indY z) rfl
  | stxZpY z => exact .write (.zpY z) rfl
  | aslAcc | lsrAcc | rolAcc | rorAcc => exact .modify .acc rfl
  | aslZp z | lsrZp z | rolZp z | rorZp z | decZp z | incZp z => exact .modify (.mem (.zp z)) rfl
  | aslZpX z | lsrZpX z | rolZpX z | rorZpX z | decZpX z | incZpX z =>
    exact .modify (.mem (.zpX z)) rfl
  | aslAbs a | lsrAbs a | rolAbs a | rorAbs a | decAbs a | incAbs a =>
    exact .modify (.mem (.abs a)) rfl
  | aslAbsX a | lsrAbsX a | rolAbsX a | rorAbsX a | decAbsX a | incAbsX a =>
    exact .modify (.mem (.absX a)) rfl
  | tax | tay | tsx | txa | txs | tya | dex | dey | inx | iny | clc | cld | cli | clv | sec
  | sed | sei | nop => exact .implied rfl
  | bcc off | bcs off | beq off | bmi off | bne off | bpl off | bvc off | bvs off =>
    exact .branch rfl
  | pha => exact .pha
  | php => exact .php
  | pla => exact .pla
  | plp => exact .plp
  | brk => exact .brk
  | jmpAbs a => exact .jmpAbs a
  | jmpInd a => exact .jmpInd a
  | jsr a => exact .jsr a
  | rti => exact .rti
  | rts => exact .rts

/-! ## What an instruction that completes leaves -/

/-- `Executes s i t`: `i` completes from `s` in `t`. -/
inductive Executes (s : State) : Instr → State → Prop where
  | read {i : Instr} {opc v : Byte} {o : ReadOperand} (row : ReadRow i.mnemonic o opc i)
      (operand : s.readOperand o = .ok v) :
      Executes s i ((readEffect i.mnemonic s v).advance o.length)
  | write {i : Instr} {opc : Byte} {o : MemOperand} {ea : Word} (row : WriteRow i.mnemonic o opc i)
      (address : s.effAddr o = .ok ea) (access : s.accessible ea) :
      Executes s i ((s.stored ea (storedRegister i.mnemonic s)).advance o.length)
  | modifyAcc {i : Instr} {opc : Byte} (row : ModifyRow i.mnemonic .acc opc i) :
      Executes s i
        ((modifyFlags i.mnemonic s.C s.A (s.setA (modifyResult i.mnemonic s.C s.A))).advance 1)
  | modifyMem {i : Instr} {opc : Byte} {o : MemOperand} {ea : Word}
      (row : ModifyRow i.mnemonic (.mem o) opc i) (address : s.effAddr o = .ok ea)
      (access : s.accessible ea) :
      Executes s i
        ((modifyFlags i.mnemonic s.C (s.peek ea)
          (s.stored ea (modifyResult i.mnemonic s.C (s.peek ea)))).advance o.length)
  | implied {i : Instr} {f : State → State} (effect : impliedEffect i = some f) :
      Executes s i ((f s).advance 1)
  | branch {i : Instr} {off : Byte} {taken : State → Bool}
      (condition : branchCondition i = some (off, taken)) :
      Executes s i (if taken s then s.setPc (branchTarget s.pc off) else s.advance 2)
  | pha (access : s.accessible (stackAddr s.S)) : Executes s .pha ((s.pushed s.A).advance 1)
  | php (access : s.accessible (stackAddr s.S)) :
      Executes s .php ((s.pushed (s.statusByte true)).advance 1)
  | pla (access : s.accessible (stackAddr (s.S + 1))) :
      Executes s .pla ((((s.setS (s.S + 1)).setA s.top).setNZ s.top).advance 1)
  | plp (access : s.accessible (stackAddr (s.S + 1))) :
      Executes s .plp (((s.setS (s.S + 1)).setP s.top).advance 1)
  | jmpAbs {a : Word} : Executes s (.jmpAbs a) (s.setPc a)
  | jmpInd {a target : Word} (pointer : s.jmpIndirectTarget a = .ok target) :
      Executes s (.jmpInd a) (s.setPc target)
  | jsr {a : Word} (access : s.accessible (stackAddr s.S))
      (access' : s.accessible (stackAddr (s.S - 1))) :
      Executes s (.jsr a) ((s.pushedWord (s.pc + 2)).setPc a)
  | rts (access : s.accessible (stackAddr (s.S + 1)))
      (access' : s.accessible (stackAddr (s.S + 2))) :
      Executes s .rts ((s.setS (s.S + 2)).setPc (s.topWord + 1))
  | rti {t : State} (left : s.leave = .ok t) : Executes s .rti t
  | brk {t : State} (entered : s.enter irqVector true (s.pc + 2) = .ok t) : Executes s .brk t

/-- A computation that ends by wrapping up a result. -/
theorem bind_ok_eq_ok {α β : Type} {x : Access α} {f : α → β} {r : β} :
    (x >>= fun a => .ok (f a)) = .ok r ↔ ∃ a, x = .ok a ∧ r = f a := by
  simp only [bind_eq_ok, Except.ok.injEq, eq_comm (b := r)]

theorem ReadRow.exec_next_iff {m : Mnemonic} {o : ReadOperand} {opc : Byte} {i : Instr}
    (row : ReadRow m o opc i) {s t : State} : exec i s = .next t ↔
      ∃ v, s.readOperand o = .ok v ∧ t = (readEffect m s v).advance o.length := by
  rw [row.exec_eq, finish_next_iff, bind_ok_eq_ok]

theorem WriteRow.exec_next_iff {m : Mnemonic} {o : MemOperand} {opc : Byte} {i : Instr}
    (row : WriteRow m o opc i) {s t : State} : exec i s = .next t ↔
      ∃ ea, s.effAddr o = .ok ea ∧ s.accessible ea
        ∧ t = (s.stored ea (storedRegister m s)).advance o.length := by
  rw [row.exec_eq, finish_next_iff, bind_ok_eq_ok]
  constructor
  · rintro ⟨u, hu, rfl⟩
    obtain ⟨ea, hea, hacc, rfl⟩ := writeOperand_ok_iff.1 hu
    exact ⟨ea, hea, hacc, rfl⟩
  · rintro ⟨ea, hea, hacc, rfl⟩
    exact ⟨_, writeOperand_ok_iff.2 ⟨ea, hea, hacc, rfl⟩, rfl⟩

theorem ModifyRow.exec_acc {m : Mnemonic} {opc : Byte} {i : Instr} (row : ModifyRow m .acc opc i)
    (s : State) : exec i s = .next
      ((modifyFlags m s.C s.A (s.setA (modifyResult m s.C s.A))).advance 1) := row.exec_eq s

theorem ModifyRow.exec_mem_next_iff {m : Mnemonic} {o : MemOperand} {opc : Byte} {i : Instr}
    (row : ModifyRow m (.mem o) opc i) {s t : State} : exec i s = .next t ↔
      ∃ ea, s.effAddr o = .ok ea ∧ s.accessible ea
        ∧ t = (modifyFlags m s.C (s.peek ea)
            (s.stored ea (modifyResult m s.C (s.peek ea)))).advance o.length := by
  rw [row.exec_eq, finish_next_iff, bind_ok_eq_ok]
  constructor
  · rintro ⟨u, hu, rfl⟩
    obtain ⟨ea, hea, hacc, rfl⟩ := modifyOperand_mem_ok_iff.1 hu
    exact ⟨ea, hea, hacc, rfl⟩
  · rintro ⟨ea, hea, hacc, rfl⟩
    exact ⟨_, modifyOperand_mem_ok_iff.2 ⟨ea, hea, hacc, rfl⟩, rfl⟩

theorem pushByte_ok_iff {s t : State} {v : Byte} :
    pushByte v s = .ok t ↔ s.accessible (stackAddr s.S) ∧ t = (s.pushed v).advance 1 := by
  simp only [pushByte, bind_ok_eq_ok, push_ok_iff, and_assoc, exists_and_left, exists_eq_left]

theorem pullByte_ok_iff {s t : State} {put : State → Byte → State} :
    pullByte put s = .ok t ↔
      s.accessible (stackAddr (s.S + 1)) ∧ t = (put (s.setS (s.S + 1)) s.top).advance 1 := by
  simp only [pullByte, bind_ok_eq_ok, Prod.exists, pull_ok_iff, and_assoc, exists_and_left,
    exists_eq_left]

theorem exec_jmpInd_next_iff {s t : State} {a : Word} : exec (.jmpInd a) s = .next t ↔
    ∃ target, s.jmpIndirectTarget a = .ok target ∧ t = s.setPc target :=
  finish_next_iff.trans bind_ok_eq_ok

theorem exec_jsr_next_iff {s t : State} {a : Word} : exec (.jsr a) s = .next t ↔
    s.accessible (stackAddr s.S) ∧ s.accessible (stackAddr (s.S - 1))
      ∧ t = (s.pushedWord (s.pc + 2)).setPc a := by
  refine (finish_next_iff.trans bind_ok_eq_ok).trans ?_
  simp only [pushWord_ok_iff, and_assoc, exists_and_left, exists_eq_left]

theorem exec_rts_next_iff {s t : State} : exec .rts s = .next t ↔
    s.accessible (stackAddr (s.S + 1)) ∧ s.accessible (stackAddr (s.S + 2))
      ∧ t = (s.setS (s.S + 2)).setPc (s.topWord + 1) := by
  refine (finish_next_iff.trans bind_ok_eq_ok).trans ?_
  simp only [Prod.exists, pullWord_ok_iff, and_assoc, exists_and_left, exists_eq_left]

theorem executes_of_exec {s t : State} {i : Instr} (h : exec i s = .next t) : Executes s i t := by
  cases Kind.of i with
  | read o form =>
    have row := readRow_of_readForm form
    obtain ⟨v, hv, rfl⟩ := row.exec_next_iff.1 h
    exact .read row hv
  | write o form =>
    have row := writeRow_of_writeForm form
    obtain ⟨ea, hea, hacc, rfl⟩ := row.exec_next_iff.1 h
    exact .write row hea hacc
  | modify o form =>
    have row := modifyRow_of_modifyForm form
    cases o with
    | acc =>
      cases (row.exec_acc s).symm.trans h
      exact .modifyAcc row
    | mem o =>
      obtain ⟨ea, hea, hacc, rfl⟩ := row.exec_mem_next_iff.1 h
      exact .modifyMem row hea hacc
  | implied effect =>
    cases (exec_of_impliedEffect effect s).symm.trans h
    exact .implied effect
  | branch condition =>
    cases (exec_of_branchCondition condition s).symm.trans h
    exact .branch condition
  | pha =>
    obtain ⟨hacc, rfl⟩ := pushByte_ok_iff.1 (finish_next_iff.1 h)
    exact .pha hacc
  | php =>
    obtain ⟨hacc, rfl⟩ := pushByte_ok_iff.1 (finish_next_iff.1 h)
    exact .php hacc
  | pla =>
    obtain ⟨hacc, rfl⟩ := pullByte_ok_iff.1 (finish_next_iff.1 h)
    exact .pla hacc
  | plp =>
    obtain ⟨hacc, rfl⟩ := pullByte_ok_iff.1 (finish_next_iff.1 h)
    exact .plp hacc
  | jmpAbs a =>
    cases h
    exact .jmpAbs
  | jmpInd a =>
    obtain ⟨target, htarget, rfl⟩ := exec_jmpInd_next_iff.1 h
    exact .jmpInd htarget
  | jsr a =>
    obtain ⟨hacc, hacc', rfl⟩ := exec_jsr_next_iff.1 h
    exact .jsr hacc hacc'
  | rts =>
    obtain ⟨hacc, hacc', rfl⟩ := exec_rts_next_iff.1 h
    exact .rts hacc hacc'
  | rti => exact .rti (finish_next_iff.1 h)
  | brk => exact .brk (finish_next_iff.1 h)

theorem exec_of_executes {s t : State} {i : Instr} (h : Executes s i t) : exec i s = .next t := by
  cases h with
  | read row hv => exact row.exec_next_iff.2 ⟨_, hv, rfl⟩
  | write row hea hacc => exact row.exec_next_iff.2 ⟨_, hea, hacc, rfl⟩
  | modifyAcc row => exact row.exec_acc s
  | modifyMem row hea hacc => exact row.exec_mem_next_iff.2 ⟨_, hea, hacc, rfl⟩
  | implied effect => exact exec_of_impliedEffect effect s
  | branch condition => exact exec_of_branchCondition condition s
  | pha hacc => exact finish_next_iff.2 (pushByte_ok_iff.2 ⟨hacc, rfl⟩)
  | php hacc => exact finish_next_iff.2 (pushByte_ok_iff.2 ⟨hacc, rfl⟩)
  | pla hacc => exact finish_next_iff.2 (pullByte_ok_iff.2 ⟨hacc, rfl⟩)
  | plp hacc => exact finish_next_iff.2 (pullByte_ok_iff.2 ⟨hacc, rfl⟩)
  | jmpAbs => rfl
  | jmpInd pointer => exact exec_jmpInd_next_iff.2 ⟨_, pointer, rfl⟩
  | jsr hacc hacc' => exact exec_jsr_next_iff.2 ⟨hacc, hacc', rfl⟩
  | rts hacc hacc' => exact exec_rts_next_iff.2 ⟨hacc, hacc', rfl⟩
  | rti left => exact finish_next_iff.2 left
  | brk entered => exact finish_next_iff.2 entered

end Sys2Proof.Machine
end

section
/-! SUPPORT. What the effects of the instructions leave alone, and from it the frames over all instructions
(R14, R25, R27, R31, R35, R36). -/

namespace Sys2Proof.Machine

/-! ## The pushes of a word and of a frame, field by field -/

section
variable (s : State) (w : Word)

@[simp] theorem State.pushedWord_A : (s.pushedWord w).A = s.A := rfl
@[simp] theorem State.pushedWord_X : (s.pushedWord w).X = s.X := rfl
@[simp] theorem State.pushedWord_Y : (s.pushedWord w).Y = s.Y := rfl
@[simp] theorem State.pushedWord_pc : (s.pushedWord w).pc = s.pc := rfl
@[simp] theorem State.pushedWord_N : (s.pushedWord w).N = s.N := rfl
@[simp] theorem State.pushedWord_V : (s.pushedWord w).V = s.V := rfl
@[simp] theorem State.pushedWord_D : (s.pushedWord w).D = s.D := rfl
@[simp] theorem State.pushedWord_I : (s.pushedWord w).I = s.I := rfl
@[simp] theorem State.pushedWord_Z : (s.pushedWord w).Z = s.Z := rfl
@[simp] theorem State.pushedWord_C : (s.pushedWord w).C = s.C := rfl
@[simp] theorem State.pushedWord_nmiPending : (s.pushedWord w).nmiPending = s.nmiPending := rfl
@[simp] theorem State.pushedWord_iPrev : (s.pushedWord w).iPrev = s.iPrev := rfl
@[simp] theorem State.pushedWord_cfg : (s.pushedWord w).cfg = s.cfg := rfl
@[simp] theorem State.pushedWord_inputs : (s.pushedWord w).inputs = s.inputs := rfl
@[simp] theorem State.pushedWord_draws : (s.pushedWord w).draws = s.draws := rfl
@[simp] theorem State.pushedWord_S : (s.pushedWord w).S = s.S - 2 := byte_sub_one_one s.S

theorem pushedWord_wf {s : State} (h : Memory.wf s.mem = true) (w : Word) :
    Memory.wf (s.pushedWord w).mem = true := pushed_wf (pushed_wf h _) _

end

section
variable (s : State) (b : Bool) (ret : Word)

@[simp] theorem State.pushedFrame_A : (s.pushedFrame b ret).A = s.A := by
  simp [State.pushedFrame]
@[simp] theorem State.pushedFrame_X : (s.pushedFrame b ret).X = s.X := by
  simp [State.pushedFrame]
@[simp] theorem State.pushedFrame_Y : (s.pushedFrame b ret).Y = s.Y := by
  simp [State.pushedFrame]
@[simp] theorem State.pushedFrame_pc : (s.pushedFrame b ret).pc = s.pc := by
  simp [State.pushedFrame]
@[simp] theorem State.pushedFrame_N : (s.pushedFrame b ret).N = s.N := by
  simp [State.pushedFrame]
@[simp] theorem State.pushedFrame_V : (s.pushedFrame b ret).V = s.V := by
  simp [State.pushedFrame]
@[simp] theorem State.pushedFrame_D : (s.pushedFrame b ret).D = s.D := by
  simp [State.pushedFrame]
@[simp] theorem State.pushedFrame_I : (s.pushedFrame b ret).I = s.I := by
  simp [State.pushedFrame]
@[simp] theorem State.pushedFrame_Z : (s.pushedFrame b ret).Z = s.Z := by
  simp [State.pushedFrame]
@[simp] theorem State.pushedFrame_C : (s.pushedFrame b ret).C = s.C := by
  simp [State.pushedFrame]
@[simp] theorem State.pushedFrame_nmiPending : (s.pushedFrame b ret).nmiPending = s.nmiPending := by
  simp [State.pushedFrame]
@[simp] theorem State.pushedFrame_iPrev : (s.pushedFrame b ret).iPrev = s.iPrev := by
  simp [State.pushedFrame]
@[simp] theorem State.pushedFrame_cfg : (s.pushedFrame b ret).cfg = s.cfg := by
  simp [State.pushedFrame]
@[simp] theorem State.pushedFrame_inputs : (s.pushedFrame b ret).inputs = s.inputs := by
  simp [State.pushedFrame]
@[simp] theorem State.pushedFrame_draws : (s.pushedFrame b ret).draws = s.draws := by
  simp [State.pushedFrame]
@[simp] theorem State.pushedFrame_S : (s.pushedFrame b ret).S = s.S - 3 := by
  simp [State.pushedFrame]

theorem pushedFrame_wf {s : State} (h : Memory.wf s.mem = true) (b : Bool) (ret : Word) :
    Memory.wf (s.pushedFrame b ret).mem = true := pushed_wf (pushedWord_wf h ret) _

end

/-! ## The effects on registers and flags leave the rest of the state -/

/-- The fields that only an event, BRK or the end of a step touches. -/
structure SameHidden (s t : State) : Prop where
  nmiPending : t.nmiPending = s.nmiPending
  iPrev : t.iPrev = s.iPrev
  cfg : t.cfg = s.cfg
  inputs : t.inputs = s.inputs

/-- The fields that no effect on registers and flags touches. -/
structure SameRest (s t : State) : Prop extends SameHidden s t where
  pc : t.pc = s.pc
  mem : t.mem = s.mem

theorem readEffect_sameRest (m : Mnemonic) (s : State) (v : Byte) :
    SameRest s (readEffect m s v) := by
  unfold readEffect
  split
  all_goals exact ⟨⟨by simp, by simp, by simp, by simp⟩, by simp, by simp⟩

theorem modifyFlags_sameRest (m : Mnemonic) (c : Bool) (v : Byte) (t : State) :
    SameRest t (modifyFlags m c v t) := by
  unfold modifyFlags
  split
  all_goals exact ⟨⟨rfl, rfl, rfl, rfl⟩, rfl, rfl⟩

theorem impliedEffect_sameRest {i : Instr} {f : State → State} (h : impliedEffect i = some f)
    (s : State) : SameRest s (f s) := by
  unfold impliedEffect at h
  split at h
  all_goals cases h <;> exact ⟨⟨rfl, rfl, rfl, rfl⟩, rfl, rfl⟩

/-! ## The mnemonics with an operand in memory, and the branches -/

/-- The mnemonics of `branchCondition`. -/
def branchMnemonics : List Mnemonic := [.bcc, .bcs, .beq, .bmi, .bne, .bpl, .bvc, .bvs]

/-- The mnemonics with an operand (R74, R85), but for JMP and JSR. -/
def operandMnemonics : List Mnemonic :=
  readMnemonics ++ writeMnemonics ++ modifyMnemonics ++ branchMnemonics

section
variable {m : Mnemonic} {opc : Byte} {i : Instr}

theorem ReadRow.mem_operandMnemonics {o : ReadOperand} (row : ReadRow m o opc i) :
    m ∈ operandMnemonics := by
  simp [operandMnemonics, row.reads]

theorem WriteRow.mem_operandMnemonics {o : MemOperand} (row : WriteRow m o opc i) :
    m ∈ operandMnemonics := by
  simp [operandMnemonics, row.writes]

theorem ModifyRow.mem_operandMnemonics {o : RmwOperand} (row : ModifyRow m o opc i) :
    m ∈ operandMnemonics := by
  simp [operandMnemonics, row.modifies]

end

theorem mem_branchMnemonics {i : Instr} {p : Byte × (State → Bool)}
    (h : branchCondition i = some p) : i.mnemonic ∈ branchMnemonics := by
  unfold branchCondition at h
  split at h
  all_goals cases h <;> simp [branchMnemonics, Instr.mnemonic]

theorem branch_mem_operandMnemonics {i : Instr} {p : Byte × (State → Bool)}
    (h : branchCondition i = some p) : i.mnemonic ∈ operandMnemonics := by
  simp [operandMnemonics, mem_branchMnemonics h]

/-! ## The stack pointer -/

/-- R27: the column for S. -/
def stackPointerAfter (m : Mnemonic) (s : State) : Byte :=
  if m = .txs then s.X else s.S + stackDelta m

theorem stackPointerAfter_of_operand {m : Mnemonic} (h : m ∈ operandMnemonics) (s : State) :
    stackPointerAfter m s = s.S := by
  have column : ∀ m ∈ operandMnemonics, m ≠ .txs ∧ stackDelta m = 0 := by decide
  obtain ⟨hne, hdelta⟩ := column m h
  simp [stackPointerAfter, hne, hdelta]

@[simp] theorem readEffect_S (m : Mnemonic) (s : State) (v : Byte) :
    (readEffect m s v).S = s.S := by
  unfold readEffect
  split <;> simp

@[simp] theorem modifyFlags_S (m : Mnemonic) (c : Bool) (v : Byte) (t : State) :
    (modifyFlags m c v t).S = t.S := by
  unfold modifyFlags
  split <;> rfl

theorem impliedEffect_S {i : Instr} {f : State → State} (h : impliedEffect i = some f) (s : State) :
    (f s).S = stackPointerAfter i.mnemonic s := by
  unfold impliedEffect at h
  split at h
  all_goals cases h <;> simp [stackPointerAfter, Instr.mnemonic, stackDelta]

theorem Executes.stackPointer {s t : State} {i : Instr} (h : Executes s i t) :
    t.S = stackPointerAfter i.mnemonic s := by
  cases h with
  | read row => simp [stackPointerAfter_of_operand row.mem_operandMnemonics]
  | write row => simp [stackPointerAfter_of_operand row.mem_operandMnemonics]
  | modifyAcc row => simp [stackPointerAfter_of_operand row.mem_operandMnemonics]
  | modifyMem row => simp [stackPointerAfter_of_operand row.mem_operandMnemonics]
  | implied effect => exact impliedEffect_S effect s
  | branch condition =>
    rw [stackPointerAfter_of_operand (branch_mem_operandMnemonics condition)]
    split <;> rfl
  | pha | php => exact BitVec.sub_eq_add_neg _ _
  | pla | plp | rts => rfl
  | jmpAbs | jmpInd => exact (BitVec.add_zero _).symm
  | jsr => exact (State.pushedWord_S ..).trans (BitVec.sub_eq_add_neg _ _)
  | rti left =>
    obtain ⟨-, -, -, rfl⟩ := leave_ok_iff.1 left
    rfl
  | brk entered =>
    obtain ⟨-, -, -, -, -, rfl⟩ := enter_ok_iff.1 entered
    rw [State.pushedFrame_S, BitVec.sub_eq_add_neg]
    rfl

/-- Settles O37, by the kinds of instruction. -/
theorem stackPointerFrame : Obligations.StackPointerFrame :=
  fun _ _ _ h => (executes_of_exec h).stackPointer

/-! ## The program counter -/

/-- R14: pc after an instruction of `n` bytes whose effect leaves pc. -/
theorem advance_pc_of_length {s u : State} {n : Nat} {w : Word} (hpc : u.pc = s.pc)
    (hw : BitVec.ofNat 16 n = w) : (u.advance w).pc = BitVec.ofNat 16 (s.pc.toNat + n) := by
  rw [State.advance_pc, hpc, ← hw, BitVec.ofNat_add, BitVec.ofNat_toNat, BitVec.setWidth_eq]

theorem impliedEffect_length {i : Instr} {f : State → State} (h : impliedEffect i = some f) :
    i.length = 1 := by
  unfold impliedEffect at h
  split at h
  all_goals cases h <;> rfl

theorem branch_writesPc {i : Instr} {p : Byte × (State → Bool)} (h : branchCondition i = some p) :
    Instr.writesPc i = true := by
  unfold branchCondition at h
  split at h
  all_goals cases h <;> rfl

theorem Executes.pc_of_not_writesPc {s t : State} {i : Instr} (h : Executes s i t)
    (hpc : Instr.writesPc i = false) : t.pc = BitVec.ofNat 16 (s.pc.toNat + i.length) := by
  cases h with
  | read row => exact advance_pc_of_length (readEffect_sameRest ..).pc row.length
  | write row => exact advance_pc_of_length rfl row.length
  | modifyAcc row => exact advance_pc_of_length (modifyFlags_sameRest ..).pc row.length
  | modifyMem row => exact advance_pc_of_length (modifyFlags_sameRest ..).pc row.length
  | implied effect =>
    rw [impliedEffect_length effect]
    exact advance_pc_of_length (impliedEffect_sameRest effect s).pc rfl
  | branch condition => simp [branch_writesPc condition] at hpc
  | pha | php | pla | plp => exact advance_pc_of_length rfl rfl
  | jmpAbs | jmpInd | jsr | rts | rti | brk => cases hpc

/-- Settles O38, by the kinds of instruction that leave pc to step 6 of R7. -/
theorem pcAdvance : Obligations.PcAdvance :=
  fun _ _ _ hpc h => (executes_of_exec h).pc_of_not_writesPc hpc

/-! ## A, X and Y -/

theorem readEffect_A {i : Instr} (h : Instr.writesA i = false) (s : State) (v : Byte) :
    (readEffect i.mnemonic s v).A = s.A := by
  unfold readEffect
  split <;> simp_all [Instr.writesA]

theorem readEffect_X {i : Instr} (h : Instr.writesX i = false) (s : State) (v : Byte) :
    (readEffect i.mnemonic s v).X = s.X := by
  unfold readEffect
  split <;> simp_all [Instr.writesX]

theorem readEffect_Y {i : Instr} (h : Instr.writesY i = false) (s : State) (v : Byte) :
    (readEffect i.mnemonic s v).Y = s.Y := by
  unfold readEffect
  split <;> simp_all [Instr.writesY]

section
variable (m : Mnemonic) (c : Bool) (v : Byte) (t : State)

@[simp] theorem modifyFlags_A : (modifyFlags m c v t).A = t.A := by
  unfold modifyFlags
  split <;> rfl

@[simp] theorem modifyFlags_X : (modifyFlags m c v t).X = t.X := by
  unfold modifyFlags
  split <;> rfl

@[simp] theorem modifyFlags_Y : (modifyFlags m c v t).Y = t.Y := by
  unfold modifyFlags
  split <;> rfl

end

/-- R36: the three columns at once. -/
def RegistersKept (i : Instr) (s t : State) : Prop :=
  (Instr.writesA i = false → t.A = s.A) ∧ (Instr.writesX i = false → t.X = s.X)
    ∧ (Instr.writesY i = false → t.Y = s.Y)

theorem impliedEffect_registersKept {i : Instr} {f : State → State} (h : impliedEffect i = some f)
    (s : State) : RegistersKept i s (f s) := by
  unfold impliedEffect at h
  split at h
  all_goals
    cases h <;>
      simp [RegistersKept, Instr.writesA, Instr.writesX, Instr.writesY, Instr.mnemonic]

theorem Executes.registersKept {s t : State} {i : Instr} (h : Executes s i t) :
    RegistersKept i s t := by
  cases h with
  | read =>
    exact ⟨fun hA => readEffect_A hA s _, fun hX => readEffect_X hX s _,
      fun hY => readEffect_Y hY s _⟩
  | write => exact ⟨fun _ => rfl, fun _ => rfl, fun _ => rfl⟩
  | modifyAcc row => simp [RegistersKept, row.writesA]
  | modifyMem | jsr => simp [RegistersKept]
  | implied effect => exact impliedEffect_registersKept effect s
  | branch => split <;> exact ⟨fun _ => rfl, fun _ => rfl, fun _ => rfl⟩
  | pha | php | plp | jmpAbs | jmpInd | rts => exact ⟨fun _ => rfl, fun _ => rfl, fun _ => rfl⟩
  | pla => exact ⟨nofun, fun _ => rfl, fun _ => rfl⟩
  | rti left =>
    obtain ⟨-, -, -, rfl⟩ := leave_ok_iff.1 left
    exact ⟨fun _ => rfl, fun _ => rfl, fun _ => rfl⟩
  | brk entered =>
    obtain ⟨-, -, -, -, -, rfl⟩ := enter_ok_iff.1 entered
    simp [RegistersKept]

/-- Settles O36, by the kinds of instruction. -/
theorem registerFrame : Obligations.RegisterFrame :=
  fun _ _ _ h => (executes_of_exec h).registersKept

/-! ## The flags -/

/-- An entry of the matrix of R25, read as a claim about a flag before and after. -/
def FlagEffect.Allows : FlagEffect → Bool → Bool → Prop
  | .unchanged, before, after => after = before
  | .constant b, _, after => after = b
  | .computed, _, _ => True

@[simp] theorem FlagEffect.allows_unchanged {before after : Bool} :
    FlagEffect.unchanged.Allows before after ↔ after = before := Iff.rfl

@[simp] theorem FlagEffect.allows_constant {b before after : Bool} :
    (FlagEffect.constant b).Allows before after ↔ after = b := Iff.rfl

@[simp] theorem FlagEffect.allows_computed {before after : Bool} :
    FlagEffect.computed.Allows before after := trivial

/-- The row of the matrix for `m`. -/
def FlagsFollow (m : Mnemonic) (s t : State) : Prop :=
  ∀ f, (flagEffect m f).Allows (s.flag f) (t.flag f)

theorem State.advance_flag (s : State) (n : Word) (f : Flag) : (s.advance n).flag f = s.flag f := by
  cases f <;> rfl

theorem FlagsFollow.advance {m : Mnemonic} {s t : State} (h : FlagsFollow m s t) (n : Word) :
    FlagsFollow m s (t.advance n) := fun f => by
  rw [State.advance_flag]
  exact h f

/-- R130, R132: a 0 comes into bit 7. -/
@[simp] theorem lsrByte_msb (v : Byte) (c : Bool) : (lsrByte v c).value.msb = false := by
  change ((0 : BitVec 1) ++ v.extractLsb' 1 7).msb = false
  rw [BitVec.msb_append]
  rfl

theorem readEffect_flags {m : Mnemonic} (h : m ∈ readMnemonics) (s : State) (v : Byte) :
    FlagsFollow m s (readEffect m s v) := by
  intro f
  fin_cases h
  all_goals cases f <;> simp [flagEffect, readEffect, State.flag]

theorem modifyFlags_flags {m : Mnemonic} (h : m ∈ modifyMnemonics) (c : Bool) (v : Byte)
    {s t : State} (hst : ∀ f, t.flag f = s.flag f) : FlagsFollow m s (modifyFlags m c v t) := by
  intro f
  rw [← hst]
  fin_cases h
  all_goals cases f <;> simp [flagEffect, modifyFlags, State.flag]

theorem impliedEffect_flags {i : Instr} {f : State → State} (h : impliedEffect i = some f)
    (s : State) : FlagsFollow i.mnemonic s (f s) := by
  intro flag
  unfold impliedEffect at h
  split at h
  all_goals cases h <;> cases flag <;> simp [flagEffect, Instr.mnemonic, State.flag]

/-- The mnemonics whose row of the matrix is blank. -/
def flaglessMnemonics : List Mnemonic :=
  writeMnemonics ++ branchMnemonics ++ [.pha, .php, .jmp, .jsr, .rts]

theorem flagsFollow_of_flagless {m : Mnemonic} (hm : m ∈ flaglessMnemonics) {s t : State}
    (hst : ∀ f, t.flag f = s.flag f) : FlagsFollow m s t := by
  have blank : ∀ m ∈ flaglessMnemonics, ∀ f, flagEffect m f = .unchanged := by
    intro m hm f
    fin_cases hm <;> rfl
  intro f
  rw [blank m hm f]
  exact hst f

theorem Executes.flags {s t : State} {i : Instr} (h : Executes s i t) :
    FlagsFollow i.mnemonic s t := by
  cases h with
  | read row => exact (readEffect_flags row.reads s _).advance _
  | write row =>
    refine flagsFollow_of_flagless (by simp [flaglessMnemonics, row.writes]) fun f => ?_
    cases f <;> rfl
  | modifyAcc row =>
    exact (modifyFlags_flags row.modifies _ _ (by intro f; cases f <;> rfl)).advance _
  | modifyMem row =>
    exact (modifyFlags_flags row.modifies _ _ (by intro f; cases f <;> rfl)).advance _
  | implied effect => exact (impliedEffect_flags effect s).advance _
  | branch condition =>
    have flagless := mem_branchMnemonics condition
    refine flagsFollow_of_flagless (by simp [flaglessMnemonics, flagless]) fun f => ?_
    split <;> cases f <;> rfl
  | pha | php | jmpAbs | jmpInd | jsr | rts =>
    refine flagsFollow_of_flagless (by simp [flaglessMnemonics, Instr.mnemonic]) fun f => ?_
    cases f <;> simp [State.flag]
  | pla => intro f; cases f <;> simp [flagEffect, Instr.mnemonic, State.flag]
  | plp => intro f; simp [flagEffect, Instr.mnemonic]
  | rti => intro f; simp [flagEffect, Instr.mnemonic]
  | brk entered =>
    obtain ⟨-, -, -, -, -, rfl⟩ := enter_ok_iff.1 entered
    intro f
    cases f <;> simp [flagEffect, Instr.mnemonic, State.flag]

/-- Settles O35, from the row of the matrix each kind of instruction follows. -/
theorem flagMatrix : Obligations.FlagMatrix := by
  intro s t i f h
  have follow := (executes_of_exec h).flags f
  cases he : flagEffect i.mnemonic f <;> rw [he] at follow <;> exact follow

/-! ## The hidden state -/

theorem SameHidden.trans {s t u : State} (h : SameHidden s t) (h' : SameHidden t u) :
    SameHidden s u :=
  ⟨h'.nmiPending.trans h.nmiPending, h'.iPrev.trans h.iPrev, h'.cfg.trans h.cfg,
    h'.inputs.trans h.inputs⟩

theorem SameHidden.advance {s t : State} (h : SameHidden s t) (n : Word) :
    SameHidden s (t.advance n) := h.trans ⟨rfl, rfl, rfl, rfl⟩

theorem sameHidden_setA (s : State) (v : Byte) : SameHidden s (s.setA v) := ⟨rfl, rfl, rfl, rfl⟩

theorem sameHidden_stored (s : State) (a : Word) (v : Byte) : SameHidden s (s.stored a v) :=
  ⟨rfl, rfl, rfl, rfl⟩

theorem Executes.sameHidden {s t : State} {i : Instr} (h : Executes s i t) (hbrk : i ≠ .brk) :
    SameHidden s t := by
  cases h with
  | read => exact (readEffect_sameRest ..).toSameHidden.advance _
  | write => exact ⟨rfl, rfl, rfl, rfl⟩
  | modifyAcc =>
    exact ((sameHidden_setA ..).trans (modifyFlags_sameRest ..).toSameHidden).advance _
  | modifyMem =>
    exact ((sameHidden_stored ..).trans (modifyFlags_sameRest ..).toSameHidden).advance _
  | implied effect => exact (impliedEffect_sameRest effect s).toSameHidden.advance _
  | branch => split <;> exact ⟨rfl, rfl, rfl, rfl⟩
  | pha | php | pla | plp | jmpAbs | jmpInd | jsr | rts => exact ⟨rfl, rfl, rfl, rfl⟩
  | rti left =>
    obtain ⟨-, -, -, rfl⟩ := leave_ok_iff.1 left
    exact ⟨rfl, rfl, rfl, rfl⟩
  | brk => exact absurd rfl hbrk

/-! ## The draws -/

theorem readEffect_draws {m : Mnemonic} {s : State} (h : m ≠ .adc ∧ m ≠ .sbc ∨ s.D = false)
    (v : Byte) : (readEffect m s v).draws = s.draws := by
  cases m with
  | adc =>
    change (s.adc v).draws = s.draws
    rw [State.adc_binary _ _ (by simpa using h)]
    rfl
  | sbc =>
    change (s.sbc v).draws = s.draws
    rw [State.sbc_binary _ _ (by simpa using h)]
    rfl
  | _ => rfl

@[simp] theorem modifyFlags_draws (m : Mnemonic) (c : Bool) (v : Byte) (t : State) :
    (modifyFlags m c v t).draws = t.draws := by
  unfold modifyFlags
  split <;> rfl

theorem impliedEffect_draws {i : Instr} {f : State → State} (h : impliedEffect i = some f)
    (s : State) : (f s).draws = s.draws := by
  unfold impliedEffect at h
  split at h
  all_goals cases h <;> rfl

theorem Executes.draws {s t : State} {i : Instr} (h : Executes s i t)
    (hd : i.mnemonic ≠ .adc ∧ i.mnemonic ≠ .sbc ∨ s.D = false) : t.draws = s.draws := by
  cases h with
  | read => exact readEffect_draws hd _
  | write => rfl
  | modifyAcc | modifyMem => exact modifyFlags_draws ..
  | implied effect => exact impliedEffect_draws effect s
  | branch => split <;> rfl
  | pha | php | pla | plp | jmpAbs | jmpInd | jsr | rts => rfl
  | rti left =>
    obtain ⟨-, -, -, rfl⟩ := leave_ok_iff.1 left
    rfl
  | brk entered =>
    obtain ⟨-, -, -, -, -, rfl⟩ := enter_ok_iff.1 entered
    simp

theorem enter_wf {s t : State} {vector ret : Word} {b : Bool} (h : s.enter vector b ret = .ok t)
    (hwf : Memory.wf s.mem = true) : Memory.wf t.mem = true := by
  obtain ⟨-, -, -, -, -, rfl⟩ := enter_ok_iff.1 h
  dsimp only
  exact pushedFrame_wf hwf b ret

theorem enter_hidden {s t : State} {vector ret : Word} {b : Bool}
    (h : s.enter vector b ret = .ok t) :
    t.nmiPending = s.nmiPending ∧ t.iPrev = none ∧ t.cfg = s.cfg ∧ t.inputs = s.inputs := by
  obtain ⟨-, -, -, -, -, rfl⟩ := enter_ok_iff.1 h
  simp

/-- Settles O42: BRK's entry clears `i_prev`, and every other instruction keeps the four fields. -/
theorem hiddenStateFrame : Obligations.HiddenStateFrame := by
  intro s t i h
  by_cases hbrk : i = .brk
  · subst hbrk
    obtain ⟨hnmi, hprev, hcfg, hinputs⟩ := enter_hidden (finish_next_iff.1 h)
    exact ⟨hnmi, hcfg, hinputs, hprev, (executes_of_exec h).draws⟩
  · have same := (executes_of_exec h).sameHidden hbrk
    rw [if_neg hbrk]
    exact ⟨same.nmiPending, same.cfg, same.inputs, same.iPrev, (executes_of_exec h).draws⟩

/-! ## The canonical form of memory -/

theorem Executes.wf {s t : State} {i : Instr} (h : Executes s i t) (hwf : Memory.wf s.mem = true) :
    Memory.wf t.mem = true := by
  cases h with
  | read => rwa [State.advance_mem, (readEffect_sameRest ..).mem]
  | write => exact stored_wf hwf _ _
  | modifyAcc => rwa [State.advance_mem, (modifyFlags_sameRest ..).mem]
  | modifyMem =>
    rw [State.advance_mem, (modifyFlags_sameRest ..).mem]
    exact stored_wf hwf _ _
  | implied effect => rwa [State.advance_mem, (impliedEffect_sameRest effect s).mem]
  | branch => split <;> exact hwf
  | pha | php => exact pushed_wf hwf _
  | pla | plp | jmpAbs | jmpInd | rts => exact hwf
  | jsr => exact pushedWord_wf hwf _
  | rti left =>
    obtain ⟨-, -, -, rfl⟩ := leave_ok_iff.1 left
    exact hwf
  | brk entered => exact enter_wf entered hwf

/-! ## Independence of D -/

/-- The instructions that neither add, subtract nor push the status byte (R22). -/
def ReadsNoDecimal (m : Mnemonic) : Prop := m ≠ .adc ∧ m ≠ .sbc ∧ m ≠ .php ∧ m ≠ .brk

/-- What becomes of another value `d` of D: a blank entry of R25 carries it to the result, any other entry
overwrites it. -/
def withDecimal (m : Mnemonic) (t : State) (d : Bool) : State :=
  if flagEffect m .D = .unchanged then t.setD d else t

theorem withDecimal_of_operand {m : Mnemonic} (h : m ∈ operandMnemonics) (t : State) (d : Bool) :
    withDecimal m t d = t.setD d := by
  have blank : ∀ m ∈ operandMnemonics, flagEffect m .D = .unchanged := by decide
  rw [withDecimal, if_pos (blank m h)]

theorem readEffect_setD {m : Mnemonic} (h : ReadsNoDecimal m) (s : State) (d : Bool) (v : Byte) :
    readEffect m (s.setD d) v = (readEffect m s v).setD d := by
  obtain ⟨hadc, hsbc, -, -⟩ := h
  cases m with
  | adc => exact absurd rfl hadc
  | sbc => exact absurd rfl hsbc
  | _ => rfl

theorem modifyFlags_setD (m : Mnemonic) (c : Bool) (v : Byte) (t : State) (d : Bool) :
    modifyFlags m c v (t.setD d) = (modifyFlags m c v t).setD d := by
  unfold modifyFlags
  split <;> rfl

theorem storedRegister_setD (m : Mnemonic) (s : State) (d : Bool) :
    storedRegister m (s.setD d) = storedRegister m s := by
  unfold storedRegister
  split <;> rfl

theorem impliedEffect_setD {i : Instr} {f : State → State} (h : impliedEffect i = some f)
    (s : State) (d : Bool) : f (s.setD d) = withDecimal i.mnemonic (f s) d := by
  unfold impliedEffect at h
  split at h
  all_goals cases h <;> rfl

theorem branchCondition_setD {i : Instr} {off : Byte} {taken : State → Bool}
    (h : branchCondition i = some (off, taken)) (s : State) (d : Bool) :
    taken (s.setD d) = taken s := by
  unfold branchCondition at h
  split at h
  all_goals cases h <;> rfl

theorem setD_advance (t : State) (d : Bool) (n : Word) :
    (t.advance n).setD d = (t.setD d).advance n := rfl

theorem withDecimal_advance (m : Mnemonic) (t : State) (d : Bool) (n : Word) :
    withDecimal m (t.advance n) d = (withDecimal m t d).advance n := by
  unfold withDecimal
  split <;> rfl

/-- An instruction that does not read D runs from the state with another D in the same way. -/
theorem Executes.setD {s t : State} {i : Instr} (h : Executes s i t)
    (hi : ReadsNoDecimal i.mnemonic) (d : Bool) : Executes (s.setD d) i (withDecimal i.mnemonic t d) := by
  cases h with
  | read row hv =>
    rw [withDecimal_of_operand row.mem_operandMnemonics, setD_advance, ← readEffect_setD hi]
    exact .read row hv
  | write row hea hacc =>
    rw [withDecimal_of_operand row.mem_operandMnemonics, ← storedRegister_setD _ s d]
    exact .write row hea hacc
  | modifyAcc row =>
    rw [withDecimal_of_operand row.mem_operandMnemonics, setD_advance, ← modifyFlags_setD]
    exact .modifyAcc row
  | modifyMem row hea hacc =>
    rw [withDecimal_of_operand row.mem_operandMnemonics, setD_advance, ← modifyFlags_setD]
    exact .modifyMem row hea hacc
  | implied effect =>
    rw [withDecimal_advance, ← impliedEffect_setD effect]
    exact .implied effect
  | branch condition =>
    rw [withDecimal_of_operand (branch_mem_operandMnemonics condition),
      ← branchCondition_setD condition s d, apply_ite (State.setD · d)]
    exact .branch condition
  | pha hacc => exact .pha hacc
  | php => exact absurd rfl hi.2.2.1
  | pla hacc => exact .pla hacc
  | plp hacc => exact .plp hacc
  | jmpAbs => exact .jmpAbs
  | jmpInd pointer => exact .jmpInd pointer
  | jsr hacc hacc' => exact .jsr hacc hacc'
  | rts hacc hacc' => exact .rts hacc hacc'
  | rti left =>
    obtain ⟨h1, h2, h3, rfl⟩ := leave_ok_iff.1 left
    exact .rti (leave_ok_iff.2 ⟨h1, h2, h3, rfl⟩)
  | brk => exact absurd rfl hi.2.2.2

/-- Settles O34: where D is blank in R25 the other value comes through, elsewhere it is overwritten. -/
theorem decimalFlagReadOnlyByAddAndSubtract : Obligations.DecimalFlagReadOnlyByAddAndSubtract := by
  intro s t i d hadc hsbc hphp hbrk h
  have run := executes_of_exec h
  refine ⟨_, exec_of_executes (run.setD ⟨hadc, hsbc, hphp, hbrk⟩ d), ?_⟩
  unfold withDecimal
  split
  · next blank => exact ⟨rfl, .inr ⟨rfl, by have := run.flags .D; rwa [blank] at this⟩⟩
  · exact ⟨rfl, .inl rfl⟩

end Sys2Proof.Machine
end

section
/-! SUPPORT. What memory, an entry and a step leave (R43, R218, R250), and the invariant of every step. -/

namespace Sys2Proof.Machine

/-! ## Memory -/

/-- Settles O6: the completed write is `stored`, and its two reading laws give the clauses. -/
theorem memoryReadsBackWrite : Obligations.MemoryReadsBackWrite := by
  intro s t a v hwf hram hwrite
  obtain ⟨hacc, rfl⟩ := memWrite_ok_iff.1 hwrite
  refine ⟨memRead_ok_iff.2 ⟨hacc, (peek_stored_self hwf hram v).symm⟩, fun b hb => ?_⟩
  simp [State.memRead, peek_stored_ne hwf hb]

/-! ## Entry -/

/-- R53: no byte of a vector lies in the stack page. -/
theorem ne_stackAddr_of_le {a : Word} (h : 0xFFFA ≤ a.toNat) (sp : Byte) : a ≠ stackAddr sp := by
  have := sp.isLt
  rw [Ne, eq_stackAddr_iff]
  omega

section
variable {s : State} (hwf : Memory.wf s.mem = true) (b : Bool) (ret : Word)
include hwf

theorem peek_pushedFrame_ne {a : Word} (h0 : a ≠ stackAddr s.S) (h1 : a ≠ stackAddr (s.S - 1))
    (h2 : a ≠ stackAddr (s.S - 2)) : (s.pushedFrame b ret).peek a = s.peek a := by
  rw [State.pushedFrame, peek_pushed_ne (pushedWord_wf hwf ret) (by simpa using h2), State.pushedWord,
    peek_pushed_ne (pushed_wf hwf _) (by simpa using h1), peek_pushed_ne hwf h0]

theorem peek_pushedFrame_high (hram : s.ramStack) :
    (s.pushedFrame b ret).peek (stackAddr s.S) = hiByte ret := by
  have h1 : s.S ≠ s.S - 1 := by bv_omega
  have h2 : s.S ≠ s.S - 2 := by bv_omega
  rw [State.pushedFrame, peek_pushed_ne (pushedWord_wf hwf ret) (by simpa [stackAddr_inj] using h2),
    State.pushedWord, peek_pushed_ne (pushed_wf hwf _) (by simpa [stackAddr_inj] using h1),
    peek_pushed_self hwf (hram _)]

theorem peek_pushedFrame_low (hram : s.ramStack) :
    (s.pushedFrame b ret).peek (stackAddr (s.S - 1)) = loByte ret := by
  rw [State.pushedFrame, peek_pushed_ne (pushedWord_wf hwf ret) (by simp [stackAddr_inj]),
    State.pushedWord]
  exact peek_pushed_self (pushed_wf hwf _) (hram _) _

theorem peek_pushedFrame_status (hram : s.ramStack) :
    (s.pushedFrame b ret).peek (stackAddr (s.S - 2)) = s.statusByte b := by
  have h := peek_pushed_self (pushedWord_wf hwf ret) (hram (s.pushedWord ret).S) (s.statusByte b)
  rwa [State.pushedWord_S] at h

theorem vectorWord_pushedFrame {vector : Word} (h : 0xFFFA ≤ vector.toNat)
    (h' : 0xFFFA ≤ (vector + 1).toNat) :
    (s.pushedFrame b ret).vectorWord vector = mkWord (s.peek (vector + 1)) (s.peek vector) := by
  have keep {a : Word} (ha : 0xFFFA ≤ a.toNat) : (s.pushedFrame b ret).peek a = s.peek a :=
    peek_pushedFrame_ne hwf b ret (ne_stackAddr_of_le ha _) (ne_stackAddr_of_le ha _)
      (ne_stackAddr_of_le ha _)
  exact congrArg₂ mkWord (keep h') (keep h)

end

/-- A frame is three stores below S. -/
theorem pushedFrame_eq (s : State) (b : Bool) (ret : Word) : s.pushedFrame b ret =
    (((s.stored (stackAddr s.S) (hiByte ret)).stored (stackAddr (s.S - 1)) (loByte ret)).stored
      (stackAddr (s.S - 2)) (s.statusByte b)).setS (s.S - 3) := by
  have two : s.S - 1 - 1 = s.S - 2 := byte_sub_one_one s.S
  have three : s.S - 2 - 1 = s.S - 3 := byte_sub_two_one s.S
  rw [← three, ← two]
  rfl

/-- Settles O53: the entry leaves the pushed frame, read byte by byte; the vector lies outside it. -/
theorem entryEffect : Obligations.EntryEffect := by
  intro s vector ret b hwf hram hvector hacc hacc'
  have hstack := accessible_stackAddr_of_ramStack hram
  have hhigh : 0xFFFA ≤ vector.toNat ∧ 0xFFFA ≤ (vector + 1).toNat := by
    rcases hvector with rfl | rfl <;> decide
  refine ⟨_, enter_ok_iff.2 ⟨hstack _, hstack _, hstack _, hacc, hacc', rfl⟩,
    peek_pushedFrame_high hwf b ret hram, peek_pushedFrame_low hwf b ret hram, ?status,
    fun a => peek_pushedFrame_ne hwf b ret, ?rest⟩
  case status =>
    change IsStatusByte ((s.pushedFrame b ret).peek _) s b
    rw [peek_pushedFrame_status hwf b ret hram]
    exact statusByte_bits s b
  case rest =>
    simp [vectorWord_pushedFrame hwf b ret hhigh.1 hhigh.2]

/-- Settles O24: BRK is the entry by `irqVector`, its frame written as three stores. -/
theorem brkResult : Obligations.BrkResult := by
  refine ⟨rfl, fun s h0 h1 h2 hlo hhi => ⟨s.statusByte true, statusByte_bits s true, ?_⟩⟩
  have entered := (enter_ok_iff (vector := irqVector) (ret := s.pc + 2) (b := true)).2
    ⟨h0, h1, h2, hlo, hhi, rfl⟩
  rw [pushedFrame_eq] at entered
  exact finish_next_iff.2 entered

/-! ## The boundary -/

theorem step_of_reset {s : State} (h : s.nextInput.resetLine = true) :
    step s = finish s.sample.takeReset := by
  rw [step, State.boundary, choose_reset h]

/-- Settles O48: the values RESET leaves open are the draws of `takeReset`. -/
theorem resetTaken : Obligations.ResetTaken := by
  intro s hreset hlo hhi
  have taken := (takeReset_ok_iff (s := s.sample)).2 ⟨hlo, hhi, rfl⟩
  rw [step_of_reset hreset, taken]
  exact ⟨_, _, _, _, _, _, _, _, _, _, rfl⟩

/-- The state in which the NMI edge of `b` is latched and its set-overflow input has set V, with neither
left in the inputs. -/
def State.withInputsTaken (s : State) (b : BoundaryInput) (later : List BoundaryInput) : State :=
  { s with
    nmiPending := s.nmiPending || b.nmiEdge
    V := s.V || (s.cfg.soPinUsed && b.setOverflow)
    inputs := { b with nmiEdge := false, setOverflow := false } :: later }

theorem sample_withInputsTaken {s : State} {b : BoundaryInput} {later : List BoundaryInput}
    (h : s.inputs = b :: later) : (s.withInputsTaken b later).sample = s.sample := by
  simp [State.sample, State.withInputsTaken, State.nextInput, h]

theorem nextInput_of_cons {s : State} {b : BoundaryInput} {later : List BoundaryInput}
    (h : s.inputs = b :: later) : s.nextInput = b := by
  rw [State.nextInput, h]

/-- R220: the choice looks at the two levels alone. -/
theorem choose_levels (s : State) (b : BoundaryInput) :
    s.choose { b with nmiEdge := false, setOverflow := false } = s.choose b := rfl

/-- Settles O47: both states are sampled to the same state, and the levels that decide stay. -/
theorem inputsTakeEffectAtBoundary : Obligations.InputsTakeEffectAtBoundary := by
  intro s b later h
  have same : s.boundary = (s.withInputsTaken b later).boundary := by
    rw [State.boundary, State.boundary, sample_withInputsTaken h, nextInput_of_cons h]
    exact (choose_levels s.sample b).symm
  change step s = step (s.withInputsTaken b later)
  rw [step, step, same]

/-- An NMI is not left waiting where an IRQ is taken. -/
theorem choose_irq_nmi {s : State} {b : BoundaryInput} {ret : Word}
    (h : (s.choose b).1 = .irq ret) : s.nmiPending = false := by
  unfold State.choose at h
  split at h
  · cases h
  split at h
  · cases h
  · simpa using ‹¬s.nmiPending = true›

/-- `StepCase b t`: a step ends in `t`, where `b` is the state its boundary leaves: an event is taken, or one
instruction runs, and then no NMI waits. -/
inductive StepCase (b : State) : State → Prop where
  | reset {t : State} (taken : b.takeReset = .ok t) : StepCase b t
  | nmi {t : State} (taken : b.takeNmi = .ok t) : StepCase b t
  | irq {t : State} {ret : Word} (served : b.nmiPending = false) (taken : b.takeIrq ret = .ok t) :
      StepCase b t
  | run {i : Instr} {u : State} (served : b.nmiPending = false) (fetched : b.fetch = .ok i)
      (executed : Executes b i u) : StepCase b (b.retire i u)

theorem stepCase_of_step {s t : State} (h : step s = .next t) :
    ∃ d, StepCase { s.sample with draws := d } t := by
  obtain ⟨d, hd⟩ := boundary_state s
  refine ⟨d, ?_⟩
  rw [← hd]
  have served (hn : s.sample.nmiPending = false) : s.boundary.2.nmiPending = false := by rwa [hd]
  rcases step_cases h with
    ⟨-, taken⟩ | ⟨-, taken⟩ | ⟨ret, hirq, taken⟩ | ⟨hrun, i, u, hfetch, hexec, rfl⟩
  · exact .reset taken
  · exact .nmi taken
  · exact .irq (served (choose_irq_nmi hirq)) taken
  · exact .run (served (choose_run_nmi hrun)) hfetch (executes_of_exec hexec)

theorem Executes.cfg {s t : State} {i : Instr} (h : Executes s i t) : t.cfg = s.cfg :=
  (hiddenStateFrame s t i (exec_of_executes h)).2.1

/-- Settles O56: memory is written by stores alone, and `i_prev` by an entry, RESET or `retire`. -/
theorem stepKeepsInvariant : Obligations.StepKeepsInvariant := by
  intro s t ⟨hwf, hprev⟩ h
  obtain ⟨d, hcase⟩ := stepCase_of_step h
  cases hcase with
  | reset taken =>
    obtain ⟨-, -, rfl⟩ := takeReset_ok_iff.1 taken
    exact ⟨hwf, fun _ => rfl⟩
  | nmi taken => exact ⟨enter_wf taken hwf, fun _ => (enter_hidden taken).2.1⟩
  | irq _ taken => exact ⟨enter_wf taken hwf, fun _ => (enter_hidden taken).2.1⟩
  | run _ _ executed =>
    refine ⟨executed.wf hwf, fun hdelay => ?_⟩
    have hdelay' : s.cfg.iFlagDelay = false := by rwa [State.retire_cfg, executed.cfg] at hdelay
    simp [State.retire_iPrev, hdelay']

/-- Settles O58, by the cases of a step. -/
theorem stepHousekeeping : Obligations.StepHousekeeping := by
  intro s t h
  obtain ⟨d, hcase⟩ := stepCase_of_step h
  cases hcase with
  | reset taken =>
    obtain ⟨-, -, rfl⟩ := takeReset_ok_iff.1 taken
    exact ⟨rfl, rfl, rfl, .inl rfl⟩
  | nmi taken =>
    obtain ⟨hnmi, hprev, hcfg, hinputs⟩ := enter_hidden taken
    exact ⟨hcfg, hinputs, hnmi, .inl hprev⟩
  | irq served taken =>
    obtain ⟨hnmi, hprev, hcfg, hinputs⟩ := enter_hidden taken
    exact ⟨hcfg, hinputs, hnmi.trans served, .inl hprev⟩
  | @run i u served fetched executed =>
    obtain ⟨hnmi, hcfg, hinputs, -⟩ := hiddenStateFrame _ _ _ (exec_of_executes executed)
    refine ⟨hcfg, hinputs, hnmi.trans served, ?_⟩
    rw [retire_eq]
    by_cases delayed : s.cfg.iFlagDelay = true
        ∧ (i.mnemonic = .cli ∨ i.mnemonic = .sei ∨ i.mnemonic = .plp)
    · exact .inr ⟨if_pos delayed, delayed.1, i, fetched, delayed.2⟩
    · exact .inl (if_neg delayed)

end Sys2Proof.Machine
end

section
/-! SUPPORT. Where an access to memory stops (R43, R211) and where no byte changes (R61, R74): the holes of the
address map, the computations that stop only there, and the frames of the instructions that store. -/

namespace Sys2Proof.Machine

/-! ## The kinds of address -/

/-- R43: a map gives RAM where none of its regions lies. -/
theorem kindIn_of_gap {map : List Region} {k : Nat}
    (h : ∀ r ∈ map, ¬(r.base ≤ k ∧ k < r.base + r.size)) : kindIn map k = .ram := by
  induction map with
  | nil => rfl
  | cons r rest ih =>
    obtain ⟨hr, hrest⟩ := List.forall_mem_cons.1 h
    have outside : Region.holds r k = false := by simpa [Region.holds] using hr
    rw [kindIn, if_neg (by simp [outside]), ih hrest]

/-- R43: the map marks the address Device or Unmapped. -/
def State.isHole (s : State) (a : Word) : Prop := s.kindAt a = .unmapped ∨ s.kindAt a = .device

theorem not_isHole_of_accessible {s : State} {a : Word} (h : s.accessible a) : ¬ s.isHole a := by
  rcases h with h | h <;> simp [State.isHole, h]

theorem memRead_of_isHole {s : State} {a : Word} (h : s.isHole a) :
    s.memRead a = .error (.unmapped a) := by
  rcases h with h | h <;> simp [State.memRead, h]

theorem memWrite_of_isHole {s : State} {a : Word} (h : s.isHole a) (v : Byte) :
    s.memWrite a v = .error (.unmapped a) := by
  rcases h with h | h <;> simp [State.memWrite, h]

theorem stored_of_ram {s : State} {a : Word} (h : s.kindAt a = .ram) (v : Byte) :
    s.stored a v = { s with mem := Memory.write s.mem a.toNat v } := by
  rw [State.stored, if_pos h]

theorem stored_of_rom {s : State} {a : Word} (h : s.kindAt a = .rom) (v : Byte) :
    s.stored a v = s := by
  rw [State.stored, if_neg (by simp [h])]

/-- Settles O7: RAM and ROM are accessible and differ in `stored`; the rest are the holes and the gaps. -/
theorem memMapKinds : Obligations.MemMapKinds := by
  intro s a v
  refine ⟨fun hram => ⟨memRead_of_accessible (.inl hram), ?ram⟩,
    fun hrom => ⟨memRead_of_accessible (.inr hrom), ?rom⟩,
    fun hhole => ⟨memRead_of_isHole hhole.symm, memWrite_of_isHole hhole.symm v⟩, kindIn_of_gap⟩
  case ram => rw [memWrite_of_accessible (.inl hram), stored_of_ram hram]
  case rom => rw [memWrite_of_accessible (.inr hrom), stored_of_rom hrom]

/-! ## Computations that stop only at a hole -/

/-- R43, R211: where `x` stops, it names a hole of the address map of `s`. -/
def StopsAtHoles {α : Type} (s : State) (x : Access α) : Prop :=
  ∀ e, x = .error e → ∃ a, s.isHole a ∧ e = .unmapped a

section
variable {α β : Type} {s t : State} {x : Access α}

theorem stopsAtHoles_ok (a : α) : StopsAtHoles s (.ok a) := fun _ h => nomatch h

theorem StopsAtHoles.bind {f : α → Access β} (hx : StopsAtHoles s x)
    (hf : ∀ a, x = .ok a → StopsAtHoles s (f a)) : StopsAtHoles s (x >>= f) := by
  intro e h
  rcases bind_eq_error.1 h with hstop | ⟨a, ha, hstop⟩
  · exact hx e hstop
  · exact hf a ha e hstop

theorem StopsAtHoles.bind_ok (hx : StopsAtHoles s x) (f : α → β) :
    StopsAtHoles s (x >>= fun a => .ok (f a)) := hx.bind fun a _ => stopsAtHoles_ok (f a)

/-- The holes depend on the platform alone. -/
theorem StopsAtHoles.of_cfg (hx : StopsAtHoles t x) (hcfg : t.cfg = s.cfg) : StopsAtHoles s x := by
  simpa only [StopsAtHoles, State.isHole, State.kindAt, hcfg] using hx

end

section
variable (s : State)

theorem memRead_stopsAtHoles (a : Word) : StopsAtHoles s (s.memRead a) :=
  fun _ h => ⟨a, memRead_error h⟩

theorem memWrite_stopsAtHoles (a : Word) (v : Byte) : StopsAtHoles s (s.memWrite a v) :=
  fun _ h => ⟨a, memWrite_error h⟩

theorem stopsAtHoles_of_memRead {α : Type} {x : Access α}
    (h : ∀ e, x = .error e → ∃ a, s.memRead a = .error e) : StopsAtHoles s x := fun e he => by
  obtain ⟨a, ha⟩ := h e he
  exact memRead_stopsAtHoles s a e ha

theorem readWord_stopsAtHoles (lo hi : Word) : StopsAtHoles s (s.readWord lo hi) :=
  stopsAtHoles_of_memRead s fun _ => readWord_error

theorem effAddr_stopsAtHoles (o : MemOperand) : StopsAtHoles s (s.effAddr o) :=
  stopsAtHoles_of_memRead s fun _ => effAddr_error

theorem readOperand_stopsAtHoles (o : ReadOperand) : StopsAtHoles s (s.readOperand o) :=
  stopsAtHoles_of_memRead s fun _ => readOperand_error

theorem writeOperand_stopsAtHoles (o : MemOperand) (v : Byte) :
    StopsAtHoles s (s.writeOperand o v) :=
  (effAddr_stopsAtHoles s o).bind fun ea _ => memWrite_stopsAtHoles s ea v

theorem modifyOperand_stopsAtHoles (o : RmwOperand) (g : Byte → Byte)
    (flags : Byte → State → State) : StopsAtHoles s (s.modifyOperand o g flags) := by
  cases o with
  | acc => exact stopsAtHoles_ok _
  | mem o =>
    exact (effAddr_stopsAtHoles s o).bind fun ea _ => (memRead_stopsAtHoles s ea).bind fun v _ =>
      (memWrite_stopsAtHoles s ea (g v)).bind_ok _

theorem push_stopsAtHoles (v : Byte) : StopsAtHoles s (s.push v) :=
  (memWrite_stopsAtHoles s _ v).bind_ok _

theorem pull_stopsAtHoles : StopsAtHoles s s.pull :=
  ((memRead_stopsAtHoles (s.setS (s.S + 1)) _).bind_ok _).of_cfg rfl

theorem pushWord_stopsAtHoles (w : Word) : StopsAtHoles s (s.pushWord w) := by
  refine (push_stopsAtHoles s (hiByte w)).bind fun t ht => ?_
  obtain ⟨-, rfl⟩ := push_ok_iff.1 ht
  exact (push_stopsAtHoles _ _).of_cfg rfl

theorem pullWord_stopsAtHoles : StopsAtHoles s s.pullWord := by
  refine (pull_stopsAtHoles s).bind fun ⟨lo, t⟩ ht => ?_
  obtain ⟨-, -, rfl⟩ := pull_ok_iff.1 ht
  exact ((pull_stopsAtHoles _).bind_ok _).of_cfg rfl

theorem enter_stopsAtHoles (vector : Word) (b : Bool) (ret : Word) :
    StopsAtHoles s (s.enter vector b ret) := by
  refine (pushWord_stopsAtHoles s ret).bind fun t ht => ?_
  obtain ⟨-, -, rfl⟩ := pushWord_ok_iff.1 ht
  refine ((push_stopsAtHoles _ _).of_cfg rfl).bind fun u hu => ?_
  obtain ⟨-, rfl⟩ := push_ok_iff.1 hu
  exact ((readWord_stopsAtHoles _ vector (vector + 1)).bind_ok _).of_cfg rfl

theorem leave_stopsAtHoles : StopsAtHoles s s.leave := by
  refine (pull_stopsAtHoles s).bind fun ⟨v, t⟩ ht => ?_
  obtain ⟨-, -, rfl⟩ := pull_ok_iff.1 ht
  exact ((pullWord_stopsAtHoles _).bind_ok _).of_cfg rfl

end

/-! ## Completion and stops -/

/-- R210, R211: an instruction is a computation that stops only at a hole. -/
theorem exec_eq_finish (i : Instr) (s : State) : ∃ x, exec i s = finish x ∧ StopsAtHoles s x := by
  cases Kind.of i with
  | read o form =>
    exact ⟨_, (readRow_of_readForm form).exec_eq s, (readOperand_stopsAtHoles s o).bind_ok _⟩
  | write o form =>
    exact ⟨_, (writeRow_of_writeForm form).exec_eq s, (writeOperand_stopsAtHoles s o _).bind_ok _⟩
  | modify o form =>
    exact ⟨_, (modifyRow_of_modifyForm form).exec_eq s,
      (modifyOperand_stopsAtHoles s o _ _).bind_ok _⟩
  | implied effect => exact ⟨.ok _, exec_of_impliedEffect effect s, stopsAtHoles_ok _⟩
  | branch condition => exact ⟨.ok _, exec_of_branchCondition condition s, stopsAtHoles_ok _⟩
  | pha | php => exact ⟨_, rfl, (push_stopsAtHoles s _).bind_ok _⟩
  | pla | plp => exact ⟨_, rfl, (pull_stopsAtHoles s).bind_ok _⟩
  | jmpAbs a => exact ⟨.ok _, rfl, stopsAtHoles_ok _⟩
  | jmpInd a => exact ⟨_, rfl, (readWord_stopsAtHoles s a _).bind_ok _⟩
  | jsr a => exact ⟨_, rfl, (pushWord_stopsAtHoles s _).bind_ok _⟩
  | rts => exact ⟨_, rfl, (pullWord_stopsAtHoles s).bind_ok _⟩
  | rti => exact ⟨_, rfl, leave_stopsAtHoles s⟩
  | brk => exact ⟨_, rfl, enter_stopsAtHoles s _ _ _⟩

/-- Settles O44: `finish` never faults, and its refusals are the stops of the computation. -/
theorem stopsOnlyAtHoles : Obligations.StopsOnlyAtHoles := by
  intro s i
  obtain ⟨x, hexec, hstops⟩ := exec_eq_finish i s
  rw [hexec]
  cases x with
  | ok t => exact ⟨nofun, nofun⟩
  | error e =>
    refine ⟨nofun, fun r hr => ?_⟩
    cases hr
    exact hstops e rfl

/-- Settles O43: a platform of RAM and ROM has no hole to stop at. -/
theorem everyInstructionCompletes : Obligations.EveryInstructionCompletes := by
  intro s i hplain
  obtain ⟨x, hexec, hstops⟩ := exec_eq_finish i s
  cases x with
  | ok t => exact ⟨t, hexec⟩
  | error e =>
    obtain ⟨a, hhole, -⟩ := hstops e rfl
    exact absurd hhole (not_isHole_of_accessible (hplain a))

/-- Whether a store stops does not depend on the byte to be stored. -/
theorem writeOperand_error_any {s : State} {o : MemOperand} {v : Byte} {e : Refusal}
    (h : s.writeOperand o v = .error e) (w : Byte) : s.writeOperand o w = .error e := by
  rcases bind_eq_error.1 h with haddr | ⟨ea, haddr, hwrite⟩
  · exact bind_eq_error.2 (.inl haddr)
  · obtain ⟨hhole, rfl⟩ := memWrite_error hwrite
    exact bind_eq_error.2 (.inr ⟨ea, haddr, memWrite_of_isHole hhole w⟩)

/-- R74: a read-modify-write instruction begins by reading its operand. -/
theorem modifyOperand_error_of_readOperand {s : State} {o : MemOperand} {e : Refusal}
    (h : s.readOperand (.mem o) = .error e) (g : Byte → Byte) (flags : Byte → State → State) :
    s.modifyOperand (.mem o) g flags = .error e := by
  rcases bind_eq_error.1 h with haddr | ⟨ea, haddr, hread⟩
  · exact bind_eq_error.2 (.inl haddr)
  · exact bind_eq_error.2 (.inr ⟨ea, haddr, bind_eq_error.2 (.inl hread)⟩)

/-- Settles O45: each row of R97 begins with the access to its operand. -/
theorem operandStops : Obligations.OperandStops := by
  intro s m opc i e
  refine ⟨fun o form hread => ?_, fun o v form hwrite => ?_, fun o form hread => ?_⟩
  · rw [(readRow_of_readForm form).exec_eq, hread, error_bind, finish_error]
  · rw [(writeRow_of_writeForm form).exec_eq, writeOperand_error_any hwrite, error_bind,
      finish_error]
  · rw [(modifyRow_of_modifyForm form).exec_eq, modifyOperand_error_of_readOperand hread,
      error_bind, finish_error]

/-! ## The bytes an instruction that stores leaves -/

theorem SameRest.peek {s t : State} (h : SameRest s t) (a : Word) : t.peek a = s.peek a := by
  rw [State.peek, State.peek, h.mem]

/-- R43: a store leaves every byte but its own, and its own where that is not RAM. -/
theorem peek_stored_of_ne_or_not_ram {s : State} (hwf : Memory.wf s.mem = true) {a ea : Word}
    (h : a ≠ ea ∨ s.kindAt ea ≠ .ram) (v : Byte) : (s.stored ea v).peek a = s.peek a := by
  rcases h with hne | hrom
  · exact peek_stored_ne hwf hne v
  · exact peek_stored_rom hrom v a

/-- Settles O40: the one store goes to the address `effAddr` gives, and setting the flags leaves memory. -/
theorem operandStoreFrame : Obligations.OperandStoreFrame := by
  intro s t i m o opc ea hwf hform haddr hexec a ha
  rcases hform with form | form
  · obtain ⟨ea', haddr', -, rfl⟩ := (writeRow_of_writeForm form).exec_next_iff.1 hexec
    cases haddr.symm.trans haddr'
    exact peek_stored_of_ne_or_not_ram hwf ha _
  · obtain ⟨ea', haddr', -, rfl⟩ := (modifyRow_of_modifyForm form).exec_mem_next_iff.1 hexec
    cases haddr.symm.trans haddr'
    rw [State.advance_peek, (modifyFlags_sameRest ..).peek, peek_stored_of_ne_or_not_ram hwf ha]

theorem peek_pushedWord_ne {s : State} (hwf : Memory.wf s.mem = true) (w : Word) {a : Word}
    (h0 : a ≠ stackAddr s.S) (h1 : a ≠ stackAddr (s.S - 1)) :
    (s.pushedWord w).peek a = s.peek a := by
  rw [State.pushedWord, peek_pushed_ne (pushed_wf hwf _) (by simpa using h1), peek_pushed_ne hwf h0]

/-- Settles O41: one, two or three pushes, and pc, I and `i_prev` are no memory. -/
theorem pushFrame : Obligations.PushFrame := by
  intro s t i a hwf hexec
  refine ⟨fun hi h0 => ?byte, fun ⟨w, hi⟩ h0 h1 => ?word, fun hi h0 h1 h2 => ?frame⟩
  case byte =>
    rcases hi with rfl | rfl
    all_goals
      obtain ⟨-, rfl⟩ := pushByte_ok_iff.1 (finish_next_iff.1 hexec)
      exact peek_pushed_ne hwf h0 _
  case word =>
    subst hi
    obtain ⟨-, -, rfl⟩ := exec_jsr_next_iff.1 hexec
    exact peek_pushedWord_ne hwf _ h0 h1
  case frame =>
    subst hi
    obtain ⟨-, -, -, -, -, rfl⟩ := enter_ok_iff.1 (finish_next_iff.1 hexec)
    change (s.pushedFrame true (s.pc + 2)).peek a = s.peek a
    exact peek_pushedFrame_ne hwf true _ h0 h1 h2

/-! ## JSR -/

/-- A pushed word is two stores below S. -/
theorem pushedWord_eq (s : State) (w : Word) : s.pushedWord w =
    ((s.stored (stackAddr s.S) (hiByte w)).stored (stackAddr (s.S - 1)) (loByte w)).setS
      (s.S - 2) := by
  have two : s.S - 1 - 1 = s.S - 2 := byte_sub_one_one s.S
  rw [← two]
  rfl

/-- Settles O26: JSR is the push of pc + 2 and the jump. -/
theorem jsrResult : Obligations.JsrResult := by
  refine fun s a => ⟨rfl, fun h0 h1 => ?_⟩
  rw [exec_jsr_next_iff.2 ⟨h0, h1, rfl⟩, pushedWord_eq]
  rfl

end Sys2Proof.Machine
end

section
/-! SUPPORT. The decoder and the encoder are one table (R70 to R73, R90): the rows read from the opcode and
read from the instruction agree, and a form and an operand field make an instruction. With them the two round
trips, and the opcodes a part does not have (R92, R93). -/

namespace Sys2Proof

/-! ## A form and its operand field -/

/-- R70, R73: the instruction a form and an operand field make; none where the field does not fit. -/
def Form.build : Form → OperandField → Option Instr
  | .implied i, .none => some i
  | .byte f, .byte b => some (f b)
  | .word f, .word a => some (f a)
  | _, _ => none

/-- Completing a form from bytes is taking its operand field off their front. -/
theorem complete_ok_iff {form : Form} {bytes rest : List Byte} {i : Instr} :
    form.complete bytes = .ok (i, rest) ↔
      ∃ field, form.build field = some i ∧ bytes = OperandField.bytes field ++ rest := by
  constructor
  · intro h
    unfold Form.complete at h
    split at h
    all_goals cases h
    · exact ⟨.none, rfl, rfl⟩
    · next b1 => exact ⟨.byte b1, rfl, rfl⟩
    · next b1 b2 => exact ⟨.word (mkWord b2 b1), rfl, by simp [OperandField.bytes]⟩
  · rintro ⟨field, hbuild, rfl⟩
    unfold Form.build at hbuild
    split at hbuild
    all_goals cases hbuild
    · rfl
    · rfl
    · simp [OperandField.bytes, Form.complete]

theorem exists_build (form : Form) : ∃ field i, form.build field = some i := by
  cases form with
  | implied i => exact ⟨.none, i, rfl⟩
  | byte f => exact ⟨.byte 0, f 0, rfl⟩
  | word f => exact ⟨.word 0, f 0, rfl⟩

/-! ## The rows of the table, from both sides -/

/-- From the instruction to its row; without ROR its five rows are missing. -/
theorem exists_row_of_wellFormed {hasROR : Bool} {i : Instr} (h : i.wellFormed hasROR = true) :
    ∃ form, decodeOpcode hasROR i.opcode = some form ∧ form.build i.operand = some i := by
  cases i
  case rorAcc | rorZp | rorZpX | rorAbs | rorAbsX =>
    cases hasROR
    · cases h
    · exact ⟨_, rfl, rfl⟩
  all_goals
    dsimp only [Instr.opcode]
    exact ⟨_, rfl, rfl⟩

/-- From the row to its instructions. -/
theorem fields_of_row {hasROR : Bool} {opc : Byte} {form : Form} {field : OperandField} {i : Instr}
    (hrow : decodeOpcode hasROR opc = some form) (hbuild : form.build field = some i) :
    i.opcode = opc ∧ i.operand = field ∧ i.wellFormed hasROR = true := by
  unfold decodeOpcode at hrow
  split at hrow
  all_goals cases hasROR <;> cases hrow
  all_goals cases field <;> cases hbuild
  all_goals exact ⟨BitVec.eq_of_toNat_eq (Eq.symm ‹opc.toNat = _›), rfl, rfl⟩

/-! ## The round trips -/

/-- R70, R71, R73: bytes decode to an instruction exactly if they are its encoding and the part has it. -/
theorem decode_ok_iff {hasROR : Bool} {bytes rest : List Byte} {i : Instr} :
    decode hasROR bytes = .ok (i, rest) ↔ bytes = encode i ++ rest ∧ i.wellFormed hasROR = true := by
  cases bytes with
  | nil => simp [decode, encode]
  | cons opc bytes =>
    simp only [decode_cons_ok_iff, complete_ok_iff]
    constructor
    · rintro ⟨form, hrow, field, hbuild, rfl⟩
      obtain ⟨rfl, rfl, hwf⟩ := fields_of_row hrow hbuild
      exact ⟨rfl, hwf⟩
    · rintro ⟨hbytes, hwf⟩
      obtain ⟨rfl, rfl⟩ := List.cons.inj hbytes
      obtain ⟨form, hrow, hbuild⟩ := exists_row_of_wellFormed hwf
      exact ⟨form, hrow, i.operand, hbuild, rfl⟩

/-- Settles O1, from right to left in `decode_ok_iff`. -/
theorem decodeInvertsEncode : Obligations.DecodeInvertsEncode :=
  fun _ _ _ hwf => decode_ok_iff.2 ⟨rfl, hwf⟩

/-- Settles O2, from left to right in `decode_ok_iff`. -/
theorem encodeInvertsDecode : Obligations.EncodeInvertsDecode :=
  fun _ _ _ _ h => decode_ok_iff.1 h

/-- Settles O3: each word is an encoding. -/
theorem sampleWordsDecode : Obligations.SampleWordsDecode := by
  simp only [Obligations.SampleWordsDecode, decode_ok_iff]
  decide

end Sys2Proof

namespace Sys2Proof.Machine

/-! ## The opcodes a part does not have -/

theorem decodeOpcode_eq_none_iff_forall {hasROR : Bool} {opc : Byte} : decodeOpcode hasROR opc = none ↔
    ∀ i : Instr, i.opcode = opc → i.wellFormed hasROR = false := by
  constructor
  · rintro hnone i rfl
    by_contra hwf
    obtain ⟨form, hrow, -⟩ := exists_row_of_wellFormed (Bool.of_not_eq_false hwf)
    simp [hnone] at hrow
  · intro h
    by_contra hsome
    obtain ⟨form, hrow⟩ := Option.ne_none_iff_exists'.1 hsome
    obtain ⟨field, i, hbuild⟩ := exists_build form
    obtain ⟨hopc, -, hwf⟩ := fields_of_row hrow hbuild
    simp [h i hopc] at hwf

/-- R92: the 105 bytes, in ascending order, are the bytes without a row. -/
theorem undefinedOpcodes_eq_filter : undefinedOpcodes =
    ((List.range 256).map (BitVec.ofNat 8)).filter fun opc => (decodeOpcode true opc).isNone := by
  decide

theorem mem_undefinedOpcodes_iff {opc : Byte} :
    opc ∈ undefinedOpcodes ↔ decodeOpcode true opc = none := by
  have listed : opc ∈ (List.range 256).map (BitVec.ofNat 8) :=
    List.mem_map.2 ⟨opc.toNat, List.mem_range.2 opc.isLt, by simp⟩
  rw [undefinedOpcodes_eq_filter, List.mem_filter, Option.isNone_iff_eq_none]
  exact and_iff_right listed

/-- R93: the five opcodes are ROR's and no other's. -/
theorem opcode_mem_rorOpcodes_iff {i : Instr} : i.opcode ∈ rorOpcodes ↔ i.mnemonic = .ror := by
  cases i <;> simp [rorOpcodes, Instr.opcode, Instr.mnemonic]

/-- R92, R93. -/
theorem decodeOpcode_eq_none_iff {hasROR : Bool} {opc : Byte} : decodeOpcode hasROR opc = none ↔
    opc ∈ undefinedOpcodes ∨ hasROR = false ∧ opc ∈ rorOpcodes := by
  cases hasROR with
  | true => simp [mem_undefinedOpcodes_iff]
  | false =>
    rw [mem_undefinedOpcodes_iff, and_iff_right rfl]
    simp only [decodeOpcode_eq_none_iff_forall, Instr.wellFormed, Bool.true_or, Bool.false_or,
      bne_eq_false_iff_eq, ← opcode_mem_rorOpcodes_iff]
    constructor
    · intro h
      by_cases hrow : ∃ i : Instr, i.opcode = opc
      · obtain ⟨i, rfl⟩ := hrow
        exact .inr (h i rfl)
      · exact .inl fun i hi => absurd ⟨i, hi⟩ hrow
    · rintro (h | h) i rfl
      · exact absurd (h i rfl) (by decide)
      · exact h

/-- The refusal of R92 comes from the fetch. -/
theorem fetch_of_undefinedOpcode {s : State} {opc : Byte} (hread : s.memRead s.pc = .ok opc)
    (h : decodeOpcode s.cfg.hasROR opc = none) : s.fetch = .error (.undefinedOpcode opc s.pc) := by
  simp [State.fetch, hread, h]

/-- Settles O4: the two clauses are the rows that are missing and the rows that are there. -/
theorem undefinedOpcodeRefused : Obligations.UndefinedOpcodeRefused := by
  intro s opc hquiet hread
  simp only [← decodeOpcode_eq_none_iff, Option.isSome_iff_ne_none]
  refine ⟨fun hnone => ?_, id⟩
  have hfetch : ({ s with inputs := s.inputs.tail } : State).fetch =
      .error (.undefinedOpcode opc s.pc) :=
    (fetch_inputs s _).trans (fetch_of_undefinedOpcode hread hnone)
  rw [step_of_quiet hquiet, State.runInstruction, hfetch]

end Sys2Proof.Machine
end

section
/-! SUPPORT. Addresses in exact arithmetic (R55, R79 to R88): the operations on words as sums reduced modulo
256 or 65536. With them the effective addresses, the branches and the two jumps, and the bytes of memory an
instruction that stores nothing leaves (R74). -/

namespace Sys2Proof

/-! ## Words as numbers -/

theorem mkWord_eq_ofNat (hi lo : Byte) : mkWord hi lo = BitVec.ofNat 16 (hi.toNat * 256 + lo.toNat) := by
  rw [← mkWord_toNat, BitVec.ofNat_toNat, BitVec.setWidth_eq]

theorem zext16_eq_ofNat (b : Byte) : zext16 b = BitVec.ofNat 16 b.toNat := by
  rw [← zext16_toNat, BitVec.ofNat_toNat, BitVec.setWidth_eq]

theorem zext16_add (x y : Byte) : zext16 (x + y) = BitVec.ofNat 16 ((x.toNat + y.toNat) % 256) := by
  rw [zext16_eq_ofNat, BitVec.toNat_add]

theorem zext16_add_one (x : Byte) : zext16 (x + 1) = BitVec.ofNat 16 ((x.toNat + 1) % 256) :=
  zext16_add x 1

theorem add_zext16 (a : Word) (b : Byte) : a + zext16 b = BitVec.ofNat 16 (a.toNat + b.toNat) := by
  rw [zext16_eq_ofNat, BitVec.ofNat_add, BitVec.ofNat_toNat (x := a), BitVec.setWidth_eq]

theorem word_add_one (a : Word) : a + 1 = BitVec.ofNat 16 (a.toNat + 1) := add_zext16 a 1

theorem word_add_two (a : Word) : a + 2 = BitVec.ofNat 16 (a.toNat + 2) := add_zext16 a 2

/-- R5: the sign extension of the byte of a number in the signed range is the word of that number. -/
theorem sext16_ofInt {d : Int} (hlow : -128 ≤ d) (hhigh : d ≤ 127) :
    sext16 (BitVec.ofInt 8 d) = BitVec.ofInt 16 d := by
  have same : (BitVec.ofInt 8 d).toInt = d := by
    rw [BitVec.toInt_ofInt]
    exact Int.bmod_eq_of_le (by omega) (by omega)
  rw [sext16, BitVec.signExtend, same]

end Sys2Proof

namespace Sys2Proof.Machine

/-! ## The targets of branches -/

/-- R85: the target in exact arithmetic. -/
theorem branchTarget_eq_ofInt (pc : Word) (off : Byte) :
    branchTarget pc off = BitVec.ofInt 16 (pc.toNat + 2 + off.toInt) := by
  have word : BitVec.ofInt 16 (pc.toNat + 2) = pc + 2 := by
    rw [word_add_two]
    exact BitVec.ofInt_natCast 16 (pc.toNat + 2)
  rw [BitVec.ofInt_add, word]
  rfl

/-- Settles O5: the offset is the distance from pc + 2 as a byte, and its sign extension is that distance. -/
theorem branchOffsetReachesTarget : Obligations.BranchOffsetReachesTarget := by
  intro pc target
  unfold branchOffset
  dsimp only
  split
  · next hrange =>
    refine ⟨fun off hoff => ?_, iff_of_true rfl hrange⟩
    cases hoff
    rw [branchTarget, sext16_ofInt hrange.1 hrange.2, BitVec.ofInt_toInt, add_sub_cancel]
  · next hrange => exact ⟨nofun, iff_of_false nofun hrange⟩

theorem branches_of_branchCondition {i : Byte → Instr} {opc : Byte} {taken : State → Bool}
    (hcond : ∀ off, branchCondition (i off) = some (off, taken))
    (henc : ∀ off, encode (i off) = [opc, off]) : Branches i opc taken := by
  refine fun s off => ⟨henc off, ?_⟩
  rw [exec_of_branchCondition (hcond off), ← branchTarget_eq_ofInt, ← word_add_two]
  cases taken s <;> rfl

/-- Settles O28, branch by branch. -/
theorem branchResults : Obligations.BranchResults := by
  refine ⟨?_, ?_, ?_, ?_, ?_, ?_, ?_, ?_⟩
  all_goals exact branches_of_branchCondition (fun _ => rfl) fun _ => rfl

/-! ## Effective addresses -/

/-- R87, R88: the pointer in page zero, in exact arithmetic. -/
theorem zeroPagePointer_of_accessible {s : State} {b : Byte} {p q : Word} (hp : p = zext16 b)
    (hq : q = zext16 (b + 1)) (haccp : s.accessible p) (haccq : s.accessible q) :
    s.zeroPagePointer b = .ok (BitVec.ofNat 16 ((s.peek q).toNat * 256 + (s.peek p).toNat)) := by
  subst hp hq
  rw [zeroPagePointer_ok_iff.2 ⟨haccp, haccq, rfl⟩, mkWord_eq_ofNat]

/-- Settles O8: each mode is one of the sums above. -/
theorem effectiveAddresses : Obligations.EffectiveAddresses := by
  intro s z a
  refine ⟨congrArg Except.ok (zext16_eq_ofNat z), congrArg Except.ok (zext16_add z s.X),
    congrArg Except.ok (zext16_add z s.Y), rfl, congrArg Except.ok (add_zext16 a s.X),
    congrArg Except.ok (add_zext16 a s.Y), ?indX, ?indY, readOperand_imm s, ?mem⟩
  case indX =>
    intro p q hp hq
    rw [← zext16_add] at hp
    rw [← Nat.mod_add_mod, ← BitVec.toNat_add, ← zext16_add_one] at hq
    exact zeroPagePointer_of_accessible hp hq
  case indY =>
    intro p q hp hq haccp haccq
    rw [← zext16_eq_ofNat] at hp
    rw [← zext16_add_one] at hq
    rw [State.effAddr, zeroPagePointer_of_accessible hp hq haccp haccq, ok_bind, zext16_eq_ofNat,
      ← BitVec.ofNat_add]
  case mem => exact fun o ea haddr hacc => readOperand_mem_ok_iff.2 ⟨ea, haddr, hacc, rfl⟩

/-! ## JMP -/

/-- R86: where the high byte of the target is read, in exact arithmetic. -/
theorem jmpPointerHigh_eq (pageBug : Bool) (ptr : Word) : jmpPointerHigh pageBug ptr =
    if pageBug then BitVec.ofNat 16 (ptr.toNat / 256 * 256 + (ptr.toNat % 256 + 1) % 256)
    else BitVec.ofNat 16 (ptr.toNat + 1) := by
  have high : (hiByte ptr).toNat = ptr.toNat / 256 := by
    simp [hiByte, Nat.shiftRight_eq_div_pow]
    omega
  have low : (loByte ptr).toNat = ptr.toNat % 256 := by simp [loByte]
  have next : (loByte ptr + 1).toNat = (ptr.toNat % 256 + 1) % 256 := by
    rw [BitVec.toNat_add, low]
    rfl
  rw [jmpPointerHigh, mkWord_eq_ofNat, high, next, word_add_one]

/-- Settles O25: `exec_jmpInd_next_iff` with the two reads put in. -/
theorem jmpResults : Obligations.JmpResults := by
  refine ⟨fun s a => ⟨rfl, rfl⟩, fun s ptr high lo hi hhigh hlo hhi => ⟨rfl, ?_⟩⟩
  rw [← jmpPointerHigh_eq] at hhigh
  subst hhigh
  obtain ⟨hacclo, rfl⟩ := memRead_ok_iff.1 hlo
  obtain ⟨hacchi, rfl⟩ := memRead_ok_iff.1 hhi
  have target := jmpIndirectTarget_ok_iff.2 ⟨hacclo, hacchi, rfl⟩
  rw [exec_jmpInd_next_iff.2 ⟨_, target, rfl⟩, mkWord_eq_ofNat]
  rfl

/-! ## The instructions that store nothing -/

theorem mayStore_of_mem_writeMnemonics {i : Instr} (h : i.mnemonic ∈ writeMnemonics) :
    Instr.mayStore i = true := by
  simp only [writeMnemonics, List.mem_cons, List.not_mem_nil, or_false] at h
  rcases h with h | h | h <;> simp [Instr.mayStore, h]

/-- R74: a read-modify-write instruction puts its result in memory or in A. -/
theorem mayStore_of_mem_modifyMnemonics {i : Instr} (h : i.mnemonic ∈ modifyMnemonics) :
    Instr.mayStore i = !Instr.writesA i := by
  simp only [modifyMnemonics, List.mem_cons, List.not_mem_nil, or_false] at h
  rcases h with h | h | h | h | h | h <;> simp [Instr.mayStore, Instr.writesA, h, bne]

theorem Executes.peek_of_not_mayStore {s t : State} {i : Instr} (h : Executes s i t)
    (hstore : Instr.mayStore i = false) (a : Word) : t.peek a = s.peek a := by
  cases h with
  | read => exact (readEffect_sameRest ..).peek a
  | write row => simp [mayStore_of_mem_writeMnemonics row.writes] at hstore
  | modifyAcc => exact (modifyFlags_sameRest ..).peek a
  | modifyMem row => simp [mayStore_of_mem_modifyMnemonics row.modifies, row.writesA] at hstore
  | implied effect => exact (impliedEffect_sameRest effect s).peek a
  | branch => split <;> rfl
  | pla | plp | jmpAbs | jmpInd | rts => rfl
  | rti left =>
    obtain ⟨-, -, -, rfl⟩ := leave_ok_iff.1 left
    rfl
  | pha | php | jsr | brk => cases hstore

/-- Settles O39, by the kinds of instruction. -/
theorem nonStoringMemoryFrame : Obligations.NonStoringMemoryFrame :=
  fun _ _ _ hstore h => (executes_of_exec h).peek_of_not_mayStore hstore

end Sys2Proof.Machine
end

section
/-! SUPPORT. Cycle counts (R89, R270 to R275): the printed count of a mode that crosses no page, the `+p` of a
reading instruction, and the counts of a branch. -/

namespace Sys2Proof.Machine

/-! ## The count of an instruction, case by case -/

/-- R272: the modes with a `+p` in some column of the table, and the branches. -/
def pageModes : List Mode := [.absX, .absY, .indY, .rel]

theorem pageCrossed_of_not_mem_pageModes {s : State} {i : Instr} (h : i.mode ∉ pageModes) :
    s.pageCrossed i = .ok false := by
  simp only [pageModes, List.mem_cons, List.not_mem_nil, or_false, not_or] at h
  unfold State.pageCrossed
  split <;> simp_all

theorem cycles_of_operandKind_ne_read {s : State} {i : Instr} {mode : Mode} (hmode : i.mode = mode)
    (hrel : mode ≠ .rel) (h : operandKind i.mnemonic ≠ .read) :
    s.cycles i = .ok (baseCycles i.mnemonic mode) := by
  subst hmode
  simp [State.cycles, hrel, h]

/-- R272: the `+p` of a reading instruction. -/
theorem cycles_of_read {s : State} {i : Instr} (hrel : i.mode ≠ .rel)
    (h : operandKind i.mnemonic = .read) : s.cycles i =
      (s.pageCrossed i >>= fun p => .ok (baseCycles i.mnemonic i.mode + bitNat p)) := by
  simp [State.cycles, hrel, h]

/-- R273: the `+t+p` of a branch. -/
theorem cycles_of_rel {s : State} {i : Instr} (h : i.mode = .rel) : s.cycles i =
    (s.pageCrossed i >>= fun p => .ok (if s.branchTaken i.mnemonic then 3 + bitNat p else 2)) := by
  simp [State.cycles, h, baseCycles]

theorem cycles_of_not_mem_pageModes {s : State} {i : Instr} {mode : Mode} (hmode : i.mode = mode)
    (h : mode ∉ pageModes) : s.cycles i = .ok (baseCycles i.mnemonic mode) := by
  subst hmode
  have hrel : i.mode ≠ .rel := fun hrel => h (by simp [hrel, pageModes])
  by_cases hread : operandKind i.mnemonic = .read
  · rw [cycles_of_read hrel hread, pageCrossed_of_not_mem_pageModes h]
    rfl
  · exact cycles_of_operandKind_ne_read rfl hrel hread

/-! ## The bounds (R275) -/

theorem impliedCycles_bounds (m : Mnemonic) : 2 ≤ impliedCycles m ∧ impliedCycles m ≤ 7 := by
  unfold impliedCycles
  split <;> decide

theorem baseCycles_bounds (m : Mnemonic) (mode : Mode) :
    2 ≤ baseCycles m mode ∧ baseCycles m mode ≤ 7 := by
  cases mode with
  | imp => exact impliedCycles_bounds m
  | _ => grind [baseCycles]

/-- The `+p` fits in the bound of 7. -/
theorem baseCycles_le_of_read {m : Mnemonic} (h : operandKind m = .read) (mode : Mode) :
    baseCycles m mode ≤ 6 := by
  cases mode with
  | imp => revert h; cases m <;> decide
  | _ => grind [baseCycles]

theorem cycles_bounds {s : State} {i : Instr} {n : Nat} (h : s.cycles i = .ok n) :
    2 ≤ n ∧ n ≤ 7 := by
  have printed := baseCycles_bounds i.mnemonic i.mode
  by_cases hrel : i.mode = .rel
  · rw [cycles_of_rel hrel, bind_ok_eq_ok] at h
    obtain ⟨p, -, rfl⟩ := h
    cases p <;> split <;> decide
  by_cases hread : operandKind i.mnemonic = .read
  · rw [cycles_of_read hrel hread, bind_ok_eq_ok] at h
    obtain ⟨p, -, rfl⟩ := h
    have room := baseCycles_le_of_read hread i.mode
    have one : bitNat p ≤ 1 := p.toNat_le
    omega
  · rw [cycles_of_operandKind_ne_read rfl hrel hread] at h
    cases h
    exact printed

/-! ## The columns of R271 -/

theorem baseCycles_of_mem_readMnemonics : ∀ m ∈ readMnemonics, operandKind m = .read
    ∧ baseCycles m .imm = 2 ∧ baseCycles m .zp = 3 ∧ baseCycles m .zpX = 4 ∧ baseCycles m .zpY = 4
    ∧ baseCycles m .abs = 4 ∧ baseCycles m .absX = 4 ∧ baseCycles m .absY = 4
    ∧ baseCycles m .indX = 6 ∧ baseCycles m .indY = 5 := by decide

theorem baseCycles_of_mem_writeMnemonics : ∀ m ∈ writeMnemonics, operandKind m = .write
    ∧ baseCycles m .zp = 3 ∧ baseCycles m .zpX = 4 ∧ baseCycles m .zpY = 4 ∧ baseCycles m .abs = 4
    ∧ baseCycles m .absX = 5 ∧ baseCycles m .absY = 5
    ∧ baseCycles m .indX = 6 ∧ baseCycles m .indY = 6 := by decide

theorem baseCycles_of_mem_modifyMnemonics : ∀ m ∈ modifyMnemonics, operandKind m = .modify
    ∧ baseCycles m .acc = 2 ∧ baseCycles m .zp = 5 ∧ baseCycles m .zpX = 6 ∧ baseCycles m .abs = 6
    ∧ baseCycles m .absX = 7 := by decide

/-- R89: the number of pages crossed. -/
theorem bitNat_pageDiffers (a b : Word) :
    bitNat (pageDiffers a b) = if hiByte a = hiByte b then 0 else 1 := by
  unfold pageDiffers
  split
  · next h => simp [h, bitNat]
  · next h => simp [h, bitNat]

theorem add_bitNat_pageDiffers (printed : Nat) (base : Word) (index : Byte) :
    printed + bitNat (pageDiffers (base + zext16 index) base) = indexedCycles printed base index := by
  rw [indexedCycles, ← add_zext16, bitNat_pageDiffers]
  split <;> rfl

theorem readCycles_of_mem {i : Instr} (h : i.mnemonic ∈ readMnemonics) (s : State) :
    ReadCycles s i := by
  obtain ⟨hread, himm, hzp, hzpX, hzpY, habs, habsX, habsY, hindX, hindY⟩ :=
    baseCycles_of_mem_readMnemonics _ h
  refine ⟨fun hm => ?imm, fun hm => ?zp, Or.rec (fun hm => ?zpX) (fun hm => ?zpY), fun hm => ?abs,
    fun hm => ?indX, fun a hop => ⟨fun hm => ?absX, fun hm => ?absY⟩,
    fun z lo hi hop hm hlo hhi => ?indY⟩
  case imm => rw [cycles_of_not_mem_pageModes hm (by decide), himm]
  case zp => rw [cycles_of_not_mem_pageModes hm (by decide), hzp]
  case zpX => rw [cycles_of_not_mem_pageModes hm (by decide), hzpX]
  case zpY => rw [cycles_of_not_mem_pageModes hm (by decide), hzpY]
  case abs => rw [cycles_of_not_mem_pageModes hm (by decide), habs]
  case indX => rw [cycles_of_not_mem_pageModes hm (by decide), hindX]
  case absX =>
    rw [cycles_of_read (hm.trans_ne (by decide)) hread, hm, habsX]
    simp only [State.pageCrossed, hm, hop, ok_bind, add_bitNat_pageDiffers]
  case absY =>
    rw [cycles_of_read (hm.trans_ne (by decide)) hread, hm, habsY]
    simp only [State.pageCrossed, hm, hop, ok_bind, add_bitNat_pageDiffers]
  case indY =>
    have pointer : s.zeroPagePointer z = .ok (mkWord hi lo) := by
      rw [← zext16_eq_ofNat] at hlo
      rw [← zext16_add_one] at hhi
      rw [State.zeroPagePointer, State.readWord, hlo, hhi, ok_bind, ok_bind]
    rw [cycles_of_read (hm.trans_ne (by decide)) hread, hm, hindY]
    simp only [State.pageCrossed, hm, hop, pointer, ok_bind, add_bitNat_pageDiffers]

theorem writeCycles_of_mem {i : Instr} (h : i.mnemonic ∈ writeMnemonics) (s : State) :
    WriteCycles s i := by
  obtain ⟨hwrite, hzp, hzpX, hzpY, habs, habsX, habsY, hindX, hindY⟩ :=
    baseCycles_of_mem_writeMnemonics _ h
  have hkind : operandKind i.mnemonic ≠ .read := hwrite.trans_ne (by decide)
  refine ⟨fun hm => ?zp, Or.rec (fun hm => ?zpX) (fun hm => ?zpY), fun hm => ?abs,
    Or.rec (fun hm => ?absX) (fun hm => ?absY), Or.rec (fun hm => ?indX) (fun hm => ?indY)⟩
  case zp => rw [cycles_of_operandKind_ne_read hm (by decide) hkind, hzp]
  case zpX => rw [cycles_of_operandKind_ne_read hm (by decide) hkind, hzpX]
  case zpY => rw [cycles_of_operandKind_ne_read hm (by decide) hkind, hzpY]
  case abs => rw [cycles_of_operandKind_ne_read hm (by decide) hkind, habs]
  case absX => rw [cycles_of_operandKind_ne_read hm (by decide) hkind, habsX]
  case absY => rw [cycles_of_operandKind_ne_read hm (by decide) hkind, habsY]
  case indX => rw [cycles_of_operandKind_ne_read hm (by decide) hkind, hindX]
  case indY => rw [cycles_of_operandKind_ne_read hm (by decide) hkind, hindY]

theorem modifyCycles_of_mem {i : Instr} (h : i.mnemonic ∈ modifyMnemonics) (s : State) :
    ModifyCycles s i := by
  obtain ⟨hmodify, hacc, hzp, hzpX, habs, habsX⟩ := baseCycles_of_mem_modifyMnemonics _ h
  have hkind : operandKind i.mnemonic ≠ .read := hmodify.trans_ne (by decide)
  refine ⟨fun hm => ?acc, fun hm => ?zp, fun hm => ?zpX, fun hm => ?abs, fun hm => ?absX⟩
  case acc => rw [cycles_of_operandKind_ne_read hm (by decide) hkind, hacc]
  case zp => rw [cycles_of_operandKind_ne_read hm (by decide) hkind, hzp]
  case zpX => rw [cycles_of_operandKind_ne_read hm (by decide) hkind, hzpX]
  case abs => rw [cycles_of_operandKind_ne_read hm (by decide) hkind, habs]
  case absX => rw [cycles_of_operandKind_ne_read hm (by decide) hkind, habsX]

/-! ## The implied instructions and the branches -/

theorem impliedCycles_of_ne_brk {m : Mnemonic} (h : m ≠ .brk) : impliedCycles m =
    if m = .pha ∨ m = .php then 3
    else if m = .pla ∨ m = .plp then 4
    else if m = .rts ∨ m = .rti then 6 else 2 := by
  unfold impliedCycles
  split <;> simp_all

theorem branchCondition_fields {i : Instr} {off : Byte} {taken : State → Bool}
    (h : branchCondition i = some (off, taken)) (s : State) :
    i.mode = .rel ∧ i.operand = .byte off ∧ s.branchTaken i.mnemonic = taken s := by
  unfold branchCondition at h
  split at h
  all_goals cases h
  all_goals exact ⟨rfl, rfl, by simp [State.branchTaken, Instr.mnemonic, Bool.beq_eq_decide_eq]⟩

theorem branchCycles_of_branchCondition {s : State} {i : Byte → Instr} {taken : State → Bool}
    {b : Bool} (hcond : ∀ off, branchCondition (i off) = some (off, taken)) (htaken : taken s = b) :
    BranchCycles s i b := by
  intro off
  obtain ⟨hmode, hop, hflag⟩ := branchCondition_fields (hcond off) s
  rw [cycles_of_rel hmode, ← branchTarget_eq_ofInt, ← word_add_two]
  simp only [State.pageCrossed, hmode, hop, hflag, htaken, ok_bind, bitNat_pageDiffers]
  split
  · split <;> rfl
  · rfl

/-- Settles O60, column by column of R271. -/
theorem cycleCounts : Obligations.CycleCounts := by
  refine fun s i => ⟨fun n => cycles_bounds, (readCycles_of_mem · s), (writeCycles_of_mem · s),
    (modifyCycles_of_mem · s), fun hmode hbrk => ?implied,
    cycles_of_not_mem_pageModes rfl (by decide),
    fun a => ⟨cycles_of_not_mem_pageModes (mode := .abs) rfl (by decide),
      cycles_of_not_mem_pageModes (mode := .ind) rfl (by decide),
      cycles_of_not_mem_pageModes (mode := .abs) rfl (by decide)⟩,
    ?_, ?_, ?_, ?_, ?_, ?_, ?_, ?_⟩
  case implied =>
    rw [cycles_of_not_mem_pageModes hmode (by decide), ← impliedCycles_of_ne_brk hbrk]
    rfl
  all_goals exact branchCycles_of_branchCondition (fun _ => rfl) rfl

end Sys2Proof.Machine
end

section
/-! SUPPORT. The results of the instructions that read an operand byte and of the stores (R74): the next state
of every row of R97, and the loads and stores as rows (R101 to R106). -/

namespace Sys2Proof.Machine

/-- R7, R14: pc moves from where it was before the instruction. -/
theorem readEffect_advance (m : Mnemonic) (s : State) (v : Byte) (n : Word) :
    (readEffect m s v).advance n = { readEffect m s v with pc := s.pc + n } := by
  rw [State.advance, State.setPc, (readEffect_sameRest m s v).pc]

/-- R74 *read*: where the operand is there, the instruction of a row completes. -/
theorem ReadRow.exec_of_operand {m : Mnemonic} {o : ReadOperand} {opc v : Byte} {i : Instr}
    (row : ReadRow m o opc i) {s : State} (operand : s.readOperand o = .ok v) :
    exec i s = .next { readEffect m s v with pc := s.pc + o.length } := by
  rw [← readEffect_advance]
  exact row.exec_next_iff.2 ⟨v, operand, rfl⟩

theorem reads_of_readEffect {m : Mnemonic} {effect : State → Byte → State}
    (h : ∀ s v, readEffect m s v = effect s v) : Reads m effect := by
  intro s o opc i v form operand
  have row := readRow_of_readForm form
  rw [← h]
  exact ⟨row.encoding, row.exec_of_operand operand⟩

/-- R74 *write*: the stores, all three at once. -/
theorem stores_storedRegister (m : Mnemonic) : Stores m (storedRegister m) := by
  intro s o opc i ea form address access
  have row := writeRow_of_writeForm form
  exact ⟨row.encoding, row.exec_next_iff.2 ⟨ea, address, access, rfl⟩⟩

/-- Settles O10: the three effects differ in the register alone, and set N and Z as `setNZ_eq` says. -/
theorem loadResults : Obligations.LoadResults :=
  ⟨reads_of_readEffect fun s v => setNZ_eq (s.setA v) v,
    reads_of_readEffect fun s v => setNZ_eq (s.setX v) v,
    reads_of_readEffect fun s v => setNZ_eq (s.setY v) v⟩

/-- Settles O11: each store writes the register of its mnemonic. -/
theorem storeResults : Obligations.StoreResults :=
  ⟨stores_storedRegister .sta, stores_storedRegister .stx, stores_storedRegister .sty⟩

end Sys2Proof.Machine
end

section
/-! SUPPORT. The results of the instructions of one byte that work on registers and flags alone (R76), and the
transfers as such instructions (R110 to R116). -/

namespace Sys2Proof.Machine

/-- R7, R76: the next state is the effect's with pc one higher, for no effect of `impliedEffect` moves pc. -/
theorem implied_of_impliedEffect {i : Instr} {opc : Byte} {f effect : State → State}
    (known : impliedEffect i = some f) (encoding : encode i = [opc]) (h : ∀ s, f s = effect s) :
    Implied i opc effect := by
  refine ⟨encoding, fun s => ?_⟩
  rw [exec_of_impliedEffect known, State.advance, State.setPc, (impliedEffect_sameRest known s).pc, h]

/-- Settles O12: five transfers write their destination and set N and Z from the byte copied, as `setNZ_eq`
says; TXS writes S alone. -/
theorem transferResults : Obligations.TransferResults :=
  ⟨implied_of_impliedEffect rfl rfl fun s => setNZ_eq (s.setX s.A) s.A,
    implied_of_impliedEffect rfl rfl fun s => setNZ_eq (s.setY s.A) s.A,
    implied_of_impliedEffect rfl rfl fun s => setNZ_eq (s.setX s.S) s.S,
    implied_of_impliedEffect rfl rfl fun s => setNZ_eq (s.setA s.X) s.X,
    implied_of_impliedEffect rfl rfl fun _ => rfl,
    implied_of_impliedEffect rfl rfl fun s => setNZ_eq (s.setA s.Y) s.Y⟩

end Sys2Proof.Machine
end

section
/-! SUPPORT. The read-modify-write instructions (R74, R130): the next state of every row of R97, the shifts and
rotates as operations on bytes (R131 to R134), and ROR as the inverse of ROL. -/

namespace Sys2Proof.Machine

/-! ## The next state of a row -/

theorem modifyFlags_setA (m : Mnemonic) (c : Bool) (v a : Byte) (t : State) :
    modifyFlags m c v (t.setA a) = (modifyFlags m c v t).setA a := by
  unfold modifyFlags
  split <;> rfl

/-- R7, R14: pc moves from where it was before the instruction. -/
theorem modifyFlags_advance (m : Mnemonic) (c : Bool) (v : Byte) (t : State) (n : Word) :
    (modifyFlags m c v t).advance n = { modifyFlags m c v t with pc := t.pc + n } := by
  rw [State.advance, State.setPc, (modifyFlags_sameRest m c v t).pc]

/-- R74 *read-modify-write*: the carry that the result and the flags depend on is that of the state before,
for the write of the result does not touch it. -/
theorem modifies_of_modifyEffect {m : Mnemonic} {result : State → Byte → Byte}
    {flags : State → Byte → State} (hresult : ∀ s v, modifyResult m s.C v = result s v)
    (hflags : ∀ s v, modifyFlags m s.C v s = flags s v) : Modifies m result flags := by
  constructor
  · intro s opc i form
    have row := modifyRow_of_modifyForm form
    refine ⟨row.encoding, ?_⟩
    rw [row.exec_acc, modifyFlags_advance, modifyFlags_setA, hflags, hresult]
    rfl
  · intro s o opc i ea form address access
    have row := modifyRow_of_modifyForm form
    refine ⟨row.encoding, row.exec_mem_next_iff.2 ⟨ea, address, access, ?_⟩⟩
    rw [modifyFlags_advance, ← hflags, ← hresult]
    rfl

/-! ## The shifts and rotates as operations on bytes -/

/-- R133 bit by bit: bit 0 is the old carry, every other bit the one below it. -/
theorem rolByte_getLsbD (v : Byte) (c : Bool) (k : Nat) : (rolByte v c).value.getLsbD k =
    if k = 0 then c else decide (k < 8) && v.getLsbD (k - 1) := by
  change (v.extractLsb' 0 7 ++ BitVec.ofBool c).getLsbD k = _
  rw [BitVec.getLsbD_append]
  cases k with
  | zero => simp
  | succ k => simp [BitVec.getLsbD_extractLsb', show k + 1 < 8 ↔ k < 7 by omega]

/-- R134 bit by bit: bit 7 is the old carry, every other bit the one above it. -/
theorem rorByte_getLsbD (v : Byte) (c : Bool) (k : Nat) : (rorByte v c).value.getLsbD k =
    if k = 7 then c else v.getLsbD (k + 1) := by
  change (BitVec.ofBool c ++ v.extractLsb' 1 7).getLsbD k = _
  rw [BitVec.getLsbD_append, BitVec.getLsbD_extractLsb', Nat.add_comm 1 k]
  rcases Nat.lt_trichotomy k 7 with h | rfl | h
  · simp [h, h.ne]
  · simp
  · have above : v.getLsbD (k + 1) = false := BitVec.getLsbD_of_ge v (k + 1) (by omega)
    simp [h.ne', h.not_gt, above, show ¬ k - 7 = 0 by omega]

theorem rolByte_value (v : Byte) (c : Bool) :
    (rolByte v c).value = v <<< 1 ||| (if c then 1 else 0) := by
  refine BitVec.eq_of_getLsbD_eq fun k hk => ?_
  rw [rolByte_getLsbD, BitVec.getLsbD_or, BitVec.getLsbD_shiftLeft]
  cases k with
  | zero => cases c <;> rfl
  | succ k => cases c <;> simp [hk]

theorem rorByte_value (v : Byte) (c : Bool) :
    (rorByte v c).value = v >>> 1 ||| (if c then 0x80 else 0) := by
  have carry : ∀ k, (if c then 0x80 else 0 : Byte).getLsbD k = (c && decide (7 = k)) := by
    cases c with
    | false => simp
    | true => simp [show (128#8) = BitVec.twoPow 8 7 from rfl, BitVec.getLsbD_twoPow]
  refine BitVec.eq_of_getLsbD_eq fun k hk => ?_
  rw [rorByte_getLsbD, BitVec.getLsbD_or, BitVec.getLsbD_ushiftRight, carry, Nat.add_comm 1 k]
  split
  · next h => simp [h, BitVec.getLsbD_of_ge]
  · next h => simp [Ne.symm h]

/-- R134 after R133: ROR takes the bits back, the highest of them from the carry. -/
theorem rorByte_rolByte_value (v : Byte) (c : Bool) :
    (rorByte (rolByte v c).value (rolByte v c).carry).value = v := by
  refine BitVec.eq_of_getLsbD_eq fun k hk => ?_
  rw [rorByte_getLsbD, rolByte_getLsbD]
  split
  · next h => subst h; rfl
  · next h => simp [show k + 1 < 8 by omega]

/-- R134 after R133: the bit that ROR shifts out is the carry that ROL brought in. -/
theorem rorByte_rolByte_carry (v : Byte) (c : Bool) :
    (rorByte (rolByte v c).value (rolByte v c).carry).carry = c := rolByte_getLsbD v c 0

/-! R131, R132: ASL and LSR are, by definition, the rotates with a clear carry. -/

theorem aslByte_value (v : Byte) (c : Bool) : (aslByte v c).value = v <<< 1 :=
  (rolByte_value v false).trans BitVec.or_zero

theorem lsrByte_value (v : Byte) (c : Bool) : (lsrByte v c).value = v >>> 1 :=
  (rorByte_value v false).trans BitVec.or_zero

/-! ## The flags of a shift -/

/-- R130: C is the bit shifted out, and N and Z come from the result, whose bit 7 and value are `n` and `r`. -/
theorem setShift_eq (s : State) {result : ShiftResult} {n : Bool} {r : Byte}
    (hn : result.value.getLsbD 7 = n) (hr : result.value = r) :
    s.setShift result = { s with C := result.carry, N := n, Z := decide (r = 0) } := by
  rw [State.setShift, setNZ_eq, hn, hr]
  rfl

/-- Settles O15: each value is the shift of its `…_value` lemma, and bit 7 of it is bit 6 of the operand, 0 or
the old carry. -/
theorem shiftResults : Obligations.ShiftResults :=
  ⟨modifies_of_modifyEffect (fun s v => aslByte_value v s.C)
      fun s v => setShift_eq s (rolByte_getLsbD v false 7) (aslByte_value v s.C),
    modifies_of_modifyEffect (fun s v => lsrByte_value v s.C)
      fun s v => setShift_eq s (rorByte_getLsbD v false 7) (lsrByte_value v s.C),
    modifies_of_modifyEffect (fun s v => rolByte_value v s.C)
      fun s v => setShift_eq s (rolByte_getLsbD v s.C 7) (rolByte_value v s.C),
    modifies_of_modifyEffect (fun s v => rorByte_value v s.C)
      fun s v => setShift_eq s (rorByte_getLsbD v s.C 7) (rorByte_value v s.C)⟩

/-! ## ROR after ROL -/

/-- R79, R80, R82, R83: the operand of a read-modify-write instruction lies where its operand bytes and X say,
whatever memory holds. -/
theorem effAddr_of_modifyForm {m : Mnemonic} {o : MemOperand} {p : Byte × Instr}
    (form : modifyForm m (.mem o) = some p) {s t : State} (hX : t.X = s.X) :
    t.effAddr o = s.effAddr o := by
  cases o with
  | zp z | abs a => rfl
  | zpX z | absX a => simp only [State.effAddr, hX]
  | zpY z | indX z | indY z | absY a => cases m <;> cases form

/-- R74, R43: a read-modify-write instruction on a RAM operand at `ea` leaves its result there, and every other
byte as it was. -/
theorem ModifyRow.peek_of_exec {m : Mnemonic} {o : MemOperand} {opc : Byte} {i : Instr}
    (row : ModifyRow m (.mem o) opc i) {s t : State} {ea : Word} (hwf : Memory.wf s.mem = true)
    (address : s.effAddr o = .ok ea) (ram : s.kindAt ea = .ram) (h : exec i s = .next t) (a : Word) :
    t.peek a = if a = ea then modifyResult m s.C (s.peek ea) else s.peek a := by
  obtain ⟨ea', address', -, rfl⟩ := row.exec_mem_next_iff.1 h
  cases address.symm.trans address'
  rw [State.advance_peek, (modifyFlags_sameRest ..).peek]
  split
  · next here => rw [here, peek_stored_self hwf ram]
  · next elsewhere => exact peek_stored_ne hwf elsewhere _

theorem ModifyRow.C_of_exec {m : Mnemonic} {o : MemOperand} {opc : Byte} {i : Instr}
    (row : ModifyRow m (.mem o) opc i) {s t : State} {ea : Word} (address : s.effAddr o = .ok ea)
    (h : exec i s = .next t) : t.C = (modifyFlags m s.C (s.peek ea) s).C := by
  obtain ⟨ea', address', -, rfl⟩ := row.exec_mem_next_iff.1 h
  cases address.symm.trans address'
  cases m <;> rfl

/-- R133, R134 on A. -/
theorem ror_rol_acc {b b' : Byte} {i j : Instr} {s t u : State}
    (rol : ModifyRow .rol .acc b i) (ror : ModifyRow .ror .acc b' j)
    (hrol : exec i s = .next t) (hror : exec j t = .next u) :
    u.C = s.C ∧ u.A = s.A ∧ ∀ a, u.peek a = s.peek a := by
  cases (rol.exec_acc s).symm.trans hrol
  cases (ror.exec_acc _).symm.trans hror
  exact ⟨rorByte_rolByte_carry s.A s.C, rorByte_rolByte_value s.A s.C, fun a => rfl⟩

/-- R133, R134 on a byte of RAM whose address ROL leaves as it was: ROL puts the rotated byte and the carry
where ROR finds them. -/
theorem ror_rol_mem {o : MemOperand} {b b' : Byte} {i j : Instr} {s t u : State} {ea : Word}
    (rol : ModifyRow .rol (.mem o) b i) (ror : ModifyRow .ror (.mem o) b' j)
    (hwf : Memory.wf s.mem = true) (address : s.effAddr o = .ok ea)
    (address' : t.effAddr o = .ok ea) (ram : s.kindAt ea = .ram)
    (hrol : exec i s = .next t) (hror : exec j t = .next u) :
    u.C = s.C ∧ ∀ a, u.peek a = s.peek a := by
  have executes := executes_of_exec hrol
  have ram' : t.kindAt ea = .ram := by rw [State.kindAt, executes.cfg]; exact ram
  have bytes := rol.peek_of_exec hwf address ram hrol
  have bytes' := ror.peek_of_exec (executes.wf hwf) address' ram' hror
  have rotated : t.peek ea = (rolByte (s.peek ea) s.C).value := (bytes ea).trans (if_pos rfl)
  have carry : t.C = (rolByte (s.peek ea) s.C).carry := rol.C_of_exec address hrol
  constructor
  · calc
      u.C = (rorByte (t.peek ea) t.C).carry := ror.C_of_exec address' hror
      _ = s.C := by rw [rotated, carry, rorByte_rolByte_carry]
  · intro a
    rw [bytes']
    split
    · next here =>
      calc
        modifyResult .ror t.C (t.peek ea) = (rorByte (t.peek ea) t.C).value := rfl
        _ = s.peek a := by rw [rotated, carry, rorByte_rolByte_value, here]
    · next elsewhere => rw [bytes, if_neg elsewhere]

/-- Settles O33: neither X nor the operand bytes change, so ROR finds the operand where ROL left it. -/
theorem rorUndoesRol : Obligations.RorUndoesRol := by
  intro s o b b' i j t u hwf hram rolForm rorForm hrol hror
  have rol := modifyRow_of_modifyForm rolForm
  have ror := modifyRow_of_modifyForm rorForm
  cases o with
  | acc => exact ror_rol_acc rol ror hrol hror
  | mem o =>
    obtain ⟨ea, address, -, ht⟩ := rol.exec_mem_next_iff.1 hrol
    obtain ⟨_, _, _, hu⟩ := ror.exec_mem_next_iff.1 hror
    have hX : t.X = s.X := by simp [ht]
    have hA : u.A = s.A := by simp [hu, ht]
    have address' := (effAddr_of_modifyForm rorForm hX).trans address
    obtain ⟨hC, hpeek⟩ :=
      ror_rol_mem rol ror hwf address address' (hram o ea rfl address) hrol hror
    exact ⟨hC, hA, hpeek⟩

end Sys2Proof.Machine
end

section
/-! SUPPORT. The logical instructions and BIT as rows that read an operand (R140 to R144). -/

namespace Sys2Proof.Machine

/-- R142, with Z as a decision: of the three flags only Z depends on A. -/
theorem setBitTest_eq (s : State) (v : Byte) : s.setBitTest v =
    { s with N := v.getLsbD 7, V := v.getLsbD 6, Z := decide (s.A &&& v = 0) } := by
  rw [State.setBitTest, byte_beq]

/-- Settles O16: each instruction writes its result to A, and sets N and Z from that result, not from the
operand, as `setNZ_eq` says. -/
theorem logicResults : Obligations.LogicResults :=
  ⟨reads_of_readEffect fun s v => setNZ_eq (s.setA (s.A &&& v)) (s.A &&& v),
    reads_of_readEffect fun s v => setNZ_eq (s.setA (s.A ^^^ v)) (s.A ^^^ v),
    reads_of_readEffect fun s v => setNZ_eq (s.setA (s.A ||| v)) (s.A ||| v)⟩

/-- Settles O17: BIT's effect is `setBitTest`, which leaves A as it was. -/
theorem bitResult : Obligations.BitResult :=
  reads_of_readEffect setBitTest_eq

end Sys2Proof.Machine
end

section
/-! SUPPORT. Comparison and binary addition and subtraction (R151, R154 to R157): the next states, subtraction as
addition of the complement, and the three formulas of V. -/

namespace Sys2Proof.Machine

/-! ## Comparison -/

/-- R154, with N as bit 7 and Z as a decision. -/
theorem setCompare_eq (s : State) (r m : Byte) : s.setCompare r m =
    { s with C := decide (m.toNat ≤ r.toNat), Z := decide (r = m), N := (r - m).getLsbD 7 } := by
  rw [State.setCompare, byte_msb, byte_beq]

/-- Settles O22: the three effects differ in the register compared. -/
theorem compareResults : Obligations.CompareResults :=
  ⟨reads_of_readEffect fun s v => setCompare_eq s s.A v,
    reads_of_readEffect fun s v => setCompare_eq s s.X v,
    reads_of_readEffect fun s v => setCompare_eq s s.Y v⟩

/-! ## The next state of ADC and SBC -/

theorem exec_of_adcForm {s : State} {o : ReadOperand} {opc m : Byte} {i : Instr}
    (form : readForm .adc o = some (opc, i)) (operand : s.readOperand o = .ok m) :
    exec i s = .next { s.adc m with pc := s.pc + o.length } :=
  (readRow_of_readForm form).exec_of_operand operand

theorem exec_of_sbcForm {s : State} {o : ReadOperand} {opc m : Byte} {i : Instr}
    (form : readForm .sbc o = some (opc, i)) (operand : s.readOperand o = .ok m) :
    exec i s = .next { s.sbc m with pc := s.pc + o.length } :=
  (readRow_of_readForm form).exec_of_operand operand

theorem outsideSigned_eq (x : Int) : outsideSigned x = decide (x > 127 ∨ x < -128) :=
  (Bool.decide_or _ _).symm

/-- R151, with N as bit 7 and V and Z as decisions. -/
theorem adcBinary_eq (a m : Byte) (c : Bool) :
    let sum := a.toNat + m.toNat + c.toNat
    let r : Byte := BitVec.ofNat 8 sum
    let signed : Int := a.toInt + m.toInt + c.toNat
    adcBinary a m c =
      ⟨r, r.getLsbD 7, decide (signed > 127 ∨ signed < -128), decide (r = 0), decide (sum > 255)⟩ := by
  intro sum r signed
  rw [adcBinary, byte_msb, byte_beq, outsideSigned_eq]
  rfl

/-- R157, with N as bit 7 and V and Z as decisions. -/
theorem sbcBinary_eq (a m : Byte) (c : Bool) :
    let diff : Int := a.toNat - m.toNat - (1 - c.toNat)
    let r : Byte := BitVec.ofInt 8 diff
    let signed : Int := a.toInt - m.toInt - (1 - c.toNat)
    sbcBinary a m c =
      ⟨r, r.getLsbD 7, decide (signed > 127 ∨ signed < -128), decide (r = 0), decide (0 ≤ diff)⟩ := by
  intro diff r signed
  rw [sbcBinary, byte_msb, byte_beq, outsideSigned_eq]
  rfl

/-- Settles O18: `adcBinary_eq` gives A and the four flags. -/
theorem adcBinaryResult : Obligations.AdcBinaryResult := by
  intro s o opc i m form operand hD sum r signed
  refine ⟨(readRow_of_readForm form).encoding, ?_⟩
  rw [exec_of_adcForm form operand, s.adc_binary m hD, adcBinary_eq]
  rfl

/-- Settles O19: `sbcBinary_eq` gives A and the four flags. -/
theorem sbcBinaryResult : Obligations.SbcBinaryResult := by
  intro s o opc i m form operand hD borrow diff r signed
  refine ⟨(readRow_of_readForm form).encoding, ?_⟩
  rw [exec_of_sbcForm form operand, s.sbc_binary m hD, sbcBinary_eq]
  rfl

/-! ## Subtraction as addition of the complement -/

theorem byte_not_toInt (m : Byte) : (~~~m).toInt = -m.toInt - 1 := by
  have := m.isLt
  rw [BitVec.toInt_eq_toNat_cond, BitVec.toInt_eq_toNat_cond, BitVec.toNat_not]
  omega

theorem byte_xor_FF (m : Byte) : m ^^^ 0xFF = ~~~m := BitVec.xor_allOnes

/-- R157: `255 - M` takes the place of `-M`, so the sum is the difference and 256 more. -/
theorem sbcBinary_eq_adcBinary_not (a m : Byte) (c : Bool) :
    sbcBinary a m c = adcBinary a (~~~m) c := by
  have complement : (~~~m).toNat = 255 - m.toNat := BitVec.toNat_not
  have value : BitVec.ofInt 8 ((a.toNat : Int) - m.toNat - (1 - c.toNat))
      = BitVec.ofNat 8 (a.toNat + (~~~m).toNat + c.toNat) := by
    apply BitVec.eq_of_toNat_eq
    rw [BitVec.toNat_ofInt, BitVec.toNat_ofNat]
    omega
  have signed : a.toInt - m.toInt - (1 - c.toNat) = a.toInt + (~~~m).toInt + c.toNat := by
    rw [byte_not_toInt]
    omega
  have carry : 0 ≤ (a.toNat : Int) - m.toNat - (1 - c.toNat)
      ↔ a.toNat + (~~~m).toNat + c.toNat > 255 := by omega
  rw [sbcBinary_eq, adcBinary_eq, value, signed, decide_eq_decide.2 carry]

theorem State.sbc_eq_adc_not {s : State} (hD : s.D = false) (m : Byte) : s.sbc m = s.adc (~~~m) := by
  rw [s.sbc_binary m hD, s.adc_binary _ hD, sbcBinary_eq_adcBinary_not]

/-- Settles O31: both forms are immediate, so their operands are `m` and its complement. -/
theorem sbcIsAdcOfComplement : Obligations.SbcIsAdcOfComplement := by
  intro s t u m hD hsbc hadc
  rw [byte_xor_FF] at hadc
  cases (exec_of_sbcForm (o := .imm m) rfl rfl).symm.trans hsbc
  cases (exec_of_adcForm (o := .imm (~~~m)) rfl rfl).symm.trans hadc
  rw [State.sbc_eq_adc_not hD]
  rfl

/-! ## The formulas of V -/

theorem byte_toInt_bounds (m : Byte) : -128 ≤ m.toInt ∧ m.toInt ≤ 127 :=
  ⟨m.le_toInt, Int.le_of_lt_add_one m.toInt_lt⟩

/-- A number that two bytes and a carry can reach leaves the signed range just when the byte it is narrowed to
has the wrong sign. -/
theorem outsideSigned_eq_sign_ne {x : Int} (hlow : -256 ≤ x) (hhigh : x < 256) :
    outsideSigned x = ((BitVec.ofInt 8 x).msb != decide (x < 0)) := by
  rw [outsideSigned_eq, BitVec.msb_eq_decide, BitVec.toNat_ofInt, bne, beq_eq_decide, ← decide_not,
    decide_eq_decide, decide_eq_decide]
  omega

/-- R151: the sum modulo 256 does not depend on whether the operands count as signed. -/
theorem adcBinary_value_eq_ofInt (a m : Byte) (c : Bool) :
    (adcBinary a m c).value = BitVec.ofInt 8 (a.toInt + m.toInt + c.toNat) := by
  rw [adcBinary_eq, BitVec.ofInt_add, BitVec.ofInt_add, BitVec.ofInt_toInt, BitVec.ofInt_toInt,
    BitVec.ofInt_natCast, BitVec.ofNat_add, BitVec.ofNat_add]
  simp

/-- R151, the sign comparison: operands of different signs stay in the signed range, and the exact sum of
operands of one sign has that sign. -/
theorem adcBinary_v_eq_sign (a m : Byte) (c : Bool) :
    (adcBinary a m c).v = (a.msb == m.msb && (adcBinary a m c).value.msb != a.msb) := by
  have hc : c.toNat ≤ 1 := c.toNat_le
  obtain ⟨ha, ha'⟩ := byte_toInt_bounds a
  obtain ⟨hm, hm'⟩ := byte_toInt_bounds m
  set x : Int := a.toInt + m.toInt + c.toNat with hx
  have v : (adcBinary a m c).v = outsideSigned x := rfl
  have value : (adcBinary a m c).value = BitVec.ofInt 8 x := adcBinary_value_eq_ofInt a m c
  rw [v, value]
  by_cases same : a.msb = m.msb
  · have sign : decide (x < 0) = a.msb := by
      rw [BitVec.msb_eq_toInt, BitVec.msb_eq_toInt, decide_eq_decide] at same
      rw [BitVec.msb_eq_toInt, decide_eq_decide]
      omega
    rw [outsideSigned_eq_sign_ne (by omega) (by omega), sign, beq_iff_eq.2 same, Bool.true_and]
  · have inside : ¬ (x > 127 ∨ x < -128) := by
      rw [BitVec.msb_eq_toInt, BitVec.msb_eq_toInt, decide_eq_decide] at same
      omega
    rw [outsideSigned_eq, decide_eq_false inside, beq_false_of_ne same, Bool.false_and]

theorem sbcBinary_v_eq_sign (a m : Byte) (c : Bool) :
    (sbcBinary a m c).v = (a.msb != m.msb && (sbcBinary a m c).value.msb != a.msb) := by
  rw [sbcBinary_eq_adcBinary_not, adcBinary_v_eq_sign, BitVec.msb_not]
  cases a.msb <;> cases m.msb <;> rfl

/-- Settles O30: each exclusive-or form is the sign comparison written with the bits 7. -/
theorem overflowFormulas : Obligations.OverflowFormulas := by
  have adcBits : ∀ a m r : Bool, (a == m && r != a) = ((a ^^ r) && (m ^^ r)) := by decide
  have sbcBits : ∀ a m r : Bool, (a != m && r != a) = ((a ^^ m) && (a ^^ r)) := by decide
  intro a m c
  refine ⟨adcBinary_v_eq_sign a m c, ?_, sbcBinary_v_eq_sign a m c, ?_⟩
  · rw [adcBinary_v_eq_sign, BitVec.msb_and, BitVec.msb_xor, BitVec.msb_xor, adcBits]
  · rw [sbcBinary_v_eq_sign, BitVec.msb_and, BitVec.msb_xor, BitVec.msb_xor, sbcBits]

end Sys2Proof.Machine
end

section
/-! SUPPORT. Decimal addition and subtraction (R152, R153, R158, R159, R161): the formulas of R161 in exact
arithmetic, their agreement with decimal arithmetic on valid BCD, and the next states in both models. -/

namespace Sys2Proof.Machine

/-! ## Valid BCD -/

theorem validBcd_iff {v : Byte} : validBcd v = true ↔ v.toNat / 16 ≤ 9 ∧ v.toNat % 16 ≤ 9 := by
  rw [validBcd, Bool.and_eq_true, decide_eq_true_eq, decide_eq_true_eq]
  rfl

theorem adcDecimal_eq_some_iff {a m : Byte} {c : Bool} {r : Byte × Bool} :
    let sum := decOf a + decOf m + c.toNat
    adcDecimal a m c = some r ↔
      validBcd a = true ∧ validBcd m = true ∧ r = (bcdOf (sum % 100), decide (sum > 99)) := by
  intro sum
  rw [adcDecimal, Option.ite_none_right_eq_some, Bool.and_eq_true, and_assoc, Option.some_inj,
    eq_comm (b := r)]
  rfl

theorem sbcDecimal_eq_some_iff {a m : Byte} {c : Bool} {r : Byte × Bool} :
    let diff : Int := decOf a - decOf m - (1 - c.toNat)
    sbcDecimal a m c = some r ↔
      validBcd a = true ∧ validBcd m = true ∧ r = (bcdOf (diff % 100).toNat, decide (0 ≤ diff)) := by
  intro diff
  rw [sbcDecimal, Option.ite_none_right_eq_some, Bool.and_eq_true, and_assoc, Option.some_inj,
    eq_comm (b := r)]
  rfl

/-! ## The formulas of R161 in exact arithmetic

`adcNmos_eq` and `sbcNmos_eq` tie the next functions to the model. -/

/-- R161 `al`: the sum of the low digits of two bytes and a carry, adjusted. -/
def nmosLowSum (a m c : Nat) : Nat :=
  let al0 := a % 16 + m % 16 + c
  if 10 ≤ al0 then (al0 + 6) % 16 + 16 else al0

/-- R161 `t`: the sum with its low digit adjusted. -/
def nmosSum (a m c : Nat) : Nat := a / 16 * 16 + m / 16 * 16 + nmosLowSum a m c

/-- R161: the sum with both digits adjusted. -/
def nmosAdjustedSum (a m c : Nat) : Nat :=
  if 0xA0 ≤ nmosSum a m c then nmosSum a m c + 0x60 else nmosSum a m c

/-- R161 `ts`: the sum of `nmosSum` with the high halves taken as signed. -/
def nmosSignedSum (a m c : Nat) : Int :=
  let signedHigh (v : Nat) : Int := if v < 128 then v / 16 * 16 else v / 16 * 16 - 256
  signedHigh a + signedHigh m + nmosLowSum a m c

/-- R161 `u`: the difference of two bytes and a borrow with its low digit adjusted. -/
def nmosDiff (a m c : Nat) : Int :=
  let al0 : Int := (a % 16 : Nat) - (m % 16 : Nat) + c - 1
  (a / 16 * 16 : Nat) - (m / 16 * 16 : Nat) + if al0 < 0 then (al0 - 6) % 16 - 16 else al0

/-- R161: the difference with both digits adjusted. -/
def nmosAdjustedDiff (a m c : Nat) : Int :=
  if nmosDiff a m c < 0 then nmosDiff a m c - 0x60 else nmosDiff a m c

theorem highPart_toNat (v : Byte) : (highPart v).toNat = v.toNat / 16 * 16 := by
  have cleared : highPart v = v >>> 4 <<< 4 :=
    (BitVec.shiftLeft_ushiftRight (x := v) (n := 4)).symm
  have := v.isLt
  rw [cleared, BitVec.toNat_shiftLeft, BitVec.toNat_ushiftRight, Nat.shiftRight_eq_div_pow,
    Nat.shiftLeft_eq]
  omega

theorem highPart_toInt (v : Byte) : (highPart v).toInt =
    if v.toNat < 128 then (v.toNat : Int) / 16 * 16 else (v.toNat : Int) / 16 * 16 - 256 := by
  rw [BitVec.toInt_eq_toNat_cond, highPart_toNat]
  omega

theorem adcNmos_eq (a m : Byte) (c : Bool) :
    let t := nmosSum a.toNat m.toNat c.toNat
    let ts := nmosSignedSum a.toNat m.toNat c.toNat
    let t' := nmosAdjustedSum a.toNat m.toNat c.toNat
    adcNmos a m c =
      ⟨BitVec.ofNat 8 t', decide (128 ≤ t % 256), decide (ts > 127 ∨ ts < -128),
        decide ((a.toNat + m.toNat + c.toNat) % 256 = 0), decide (0x100 ≤ t')⟩ := by
  intro t ts t'
  have n : t.testBit 7 = decide (128 ≤ t % 256) := by
    rw [Nat.testBit_eq_decide_div_mod_eq, decide_eq_decide]
    omega
  rw [← n, ← outsideSigned_eq, ← beq_eq_decide]
  simp only [adcNmos, highPart_toNat, highPart_toInt]
  rfl

/-- R159, R161: the flags of SBC are those of the binary difference. -/
theorem sbcNmos_eq (a m : Byte) (c : Bool) :
    let u' := nmosAdjustedDiff a.toNat m.toNat c.toNat
    let diff : Int := a.toNat - m.toNat - (1 - c.toNat)
    let signed : Int := a.toInt - m.toInt - (1 - c.toNat)
    sbcNmos a m c =
      ⟨BitVec.ofInt 8 u', decide (128 ≤ diff % 256), decide (signed > 127 ∨ signed < -128),
        decide (diff % 256 = 0), decide (0 ≤ diff)⟩ := by
  intro u' diff signed
  have n : (BitVec.ofInt 8 diff).getLsbD 7 = decide (128 ≤ diff % 256) := by
    rw [← byte_msb, BitVec.msb_eq_decide, BitVec.toNat_ofInt, decide_eq_decide]
    omega
  have z : (BitVec.ofInt 8 diff = 0) ↔ diff % 256 = 0 := by
    rw [← BitVec.toNat_inj, BitVec.toNat_ofInt]
    change _ = 0 ↔ _
    omega
  rw [← n, ← decide_eq_decide.2 z]
  simp only [sbcNmos, sbcBinary_eq, highPart_toNat]
  rfl

/-! ## Agreement on valid BCD -/

/-- R161 on decimal digits: each adjustment makes of a digit that carries the digit of the decimal sum `n`, so
that the digits of `n` stand in the halves of the byte and its hundreds above them. -/
theorem nmosAdjustedSum_of_digits {a m c n : Nat} (hah : a / 16 ≤ 9) (hal : a % 16 ≤ 9)
    (hmh : m / 16 ≤ 9) (hml : m % 16 ≤ 9) (hc : c ≤ 1)
    (hn : n = 10 * (a / 16) + a % 16 + (10 * (m / 16) + m % 16) + c) :
    nmosAdjustedSum a m c = 16 * (n / 10 % 10) + n % 10 + 256 * (n / 10 / 10) := by
  have low : nmosSum a m c = 16 * (n / 10) + n % 10 := by
    simp only [nmosSum, nmosLowSum]
    split <;> omega
  simp only [nmosAdjustedSum, low]
  split <;> omega

/-- The same for the difference `n`, where a borrow counts as the carry -1. -/
theorem nmosAdjustedDiff_of_digits {a m c : Nat} {n : Int} (hah : a / 16 ≤ 9) (hal : a % 16 ≤ 9)
    (hmh : m / 16 ≤ 9) (hml : m % 16 ≤ 9) (hc : c ≤ 1)
    (hn : n = (10 * (a / 16) + a % 16 : Nat) - (10 * (m / 16) + m % 16 : Nat) - (1 - c)) :
    nmosAdjustedDiff a m c = 16 * (n / 10 % 10) + n % 10 + 256 * (n / 10 / 10) := by
  have low : nmosDiff a m c = 16 * (n / 10) + n % 10 := by
    simp only [nmosDiff]
    split <;> omega
  simp only [nmosAdjustedDiff, low]
  split <;> omega

/-- R152: narrowing to a byte keeps the last two digits. -/
theorem ofInt_digits (n : Int) :
    BitVec.ofInt 8 (16 * (n / 10 % 10) + n % 10 + 256 * (n / 10 / 10)) = bcdOf (n % 100).toNat := by
  have tens : n % 100 / 10 = n / 10 % 10 := by omega
  apply BitVec.eq_of_toNat_eq
  rw [bcdOf, BitVec.toNat_ofNat, BitVec.toNat_ofInt]
  omega

theorem nmosAdjustedSum_of_validBcd {a m : Byte} (ha : validBcd a = true) (hm : validBcd m = true)
    (c : Bool) :
    let t' := nmosAdjustedSum a.toNat m.toNat c.toNat
    let sum := decOf a + decOf m + c.toNat
    BitVec.ofNat 8 t' = bcdOf (sum % 100) ∧ (0x100 ≤ t' ↔ sum > 99) := by
  intro t' sum
  obtain ⟨hah, hal⟩ := validBcd_iff.1 ha
  obtain ⟨hmh, hml⟩ := validBcd_iff.1 hm
  have digits : t' = _ := nmosAdjustedSum_of_digits hah hal hmh hml c.toNat_le (n := sum) rfl
  constructor
  · rw [digits, ← BitVec.ofInt_natCast]
    exact ofInt_digits sum
  · omega

theorem nmosAdjustedDiff_of_validBcd {a m : Byte} (ha : validBcd a = true) (hm : validBcd m = true)
    (c : Bool) :
    let diff : Int := decOf a - decOf m - (1 - c.toNat)
    BitVec.ofInt 8 (nmosAdjustedDiff a.toNat m.toNat c.toNat) = bcdOf (diff % 100).toNat
      ∧ (0 ≤ (a.toNat : Int) - m.toNat - (1 - c.toNat) ↔ 0 ≤ diff) := by
  intro diff
  obtain ⟨hah, hal⟩ := validBcd_iff.1 ha
  obtain ⟨hmh, hml⟩ := validBcd_iff.1 hm
  have hc : c.toNat ≤ 1 := c.toNat_le
  have hdiff : diff = (10 * (a.toNat / 16) + a.toNat % 16 : Nat)
      - (10 * (m.toNat / 16) + m.toNat % 16 : Nat) - (1 - c.toNat) := rfl
  constructor
  · rw [nmosAdjustedDiff_of_digits hah hal hmh hml hc hdiff, ofInt_digits]
  · omega

/-- Settles O32: the accumulator and the carry have a decimal result only on valid BCD. -/
theorem nmosAgreesOnValidBcd : Obligations.NmosAgreesOnValidBcd := by
  intro a m c
  constructor
  · intro r hr
    obtain ⟨ha, hm, rfl⟩ := adcDecimal_eq_some_iff.1 hr
    obtain ⟨value, carry⟩ := nmosAdjustedSum_of_validBcd ha hm c
    rw [adcNmos_eq, value, decide_eq_decide.2 carry]
  · intro r hr
    obtain ⟨ha, hm, rfl⟩ := sbcDecimal_eq_some_iff.1 hr
    obtain ⟨value, carry⟩ := nmosAdjustedDiff_of_validBcd ha hm c
    rw [sbcNmos_eq, value, decide_eq_decide.2 carry]

/-! ## The next states with D = 1 -/

/-- Settles O21: `adcNmos_eq` and `sbcNmos_eq` give A and the flags, and the digits their agreement on valid
BCD. -/
theorem decimalNmosResults : Obligations.DecimalNmosResults := by
  intro s o opc i m operand hD model a b c signedHigh
  constructor
  · intro form al0 al t ts t'
    refine ⟨?_, fun ha hm => nmosAdjustedSum_of_validBcd ha hm s.C⟩
    rw [exec_of_adcForm form operand, s.adc_nmos m hD model, adcNmos_eq]
    rfl
  · intro form al0 al u u' diff signed
    refine ⟨?_, fun ha hm => nmosAdjustedDiff_of_validBcd ha hm s.C⟩
    rw [exec_of_sbcForm form operand, s.sbc_nmos m hD model, sbcNmos_eq]
    rfl

/-- Settles O20: `setDecimalDraw` writes A, the four flags and the counter alone, and takes A and C from the
decimal result where there is one. -/
theorem decimalDrawResults : Obligations.DecimalDrawResults := by
  intro s o opc i m operand hD model
  refine ⟨fun form => ?free, fun ha hm => ⟨fun form => ?sum, fun form => ?difference⟩⟩
  case free =>
    rcases form with form | form
    · rw [exec_of_adcForm form operand, s.adc_draw m hD model]
      exact ⟨_, _, _, _, _, _, rfl⟩
    · rw [exec_of_sbcForm form operand, s.sbc_draw m hD model]
      exact ⟨_, _, _, _, _, _, rfl⟩
  case sum =>
    rw [exec_of_adcForm form operand, s.adc_draw m hD model, adcDecimal_eq_some_iff.2 ⟨ha, hm, rfl⟩]
    exact ⟨_, _, _, _, rfl⟩
  case difference =>
    rw [exec_of_sbcForm form operand, s.sbc_draw m hD model, sbcDecimal_eq_some_iff.2 ⟨ha, hm, rfl⟩]
    exact ⟨_, _, _, _, rfl⟩

end Sys2Proof.Machine
end

section
/-! SUPPORT. The increments and decrements (R170 to R176), as read-modify-write rows and as instructions of one
byte. -/

namespace Sys2Proof.Machine

/-- Settles O23: INC and DEC are rows whose flags come from the byte they write back; the register forms differ in
the register and in the direction. All six set N and Z as `setNZ_eq` says, which leaves C and V. -/
theorem incDecResults : Obligations.IncDecResults :=
  ⟨modifies_of_modifyEffect (fun _ _ => rfl) fun s v => setNZ_eq s (v + 1),
    modifies_of_modifyEffect (fun _ _ => rfl) fun s v => setNZ_eq s (v - 1),
    implied_of_impliedEffect rfl rfl fun s => setNZ_eq (s.setX (s.X + 1)) (s.X + 1),
    implied_of_impliedEffect rfl rfl fun s => setNZ_eq (s.setY (s.Y + 1)) (s.Y + 1),
    implied_of_impliedEffect rfl rfl fun s => setNZ_eq (s.setX (s.X - 1)) (s.X - 1),
    implied_of_impliedEffect rfl rfl fun s => setNZ_eq (s.setY (s.Y - 1)) (s.Y - 1)⟩

end Sys2Proof.Machine
end

section
/-! SUPPORT. The returns from a subroutine and from an entry (R184, R185): what RTS and RTI take from the stack, and
that each undoes what JSR or an entry pushed (R186, R221, R225). -/

namespace Sys2Proof.Machine

/-! ## What the returns take from the stack -/

theorem exec_rts_of_memRead {s : State} {b1 b2 : Byte}
    (h1 : s.memRead (stackAddr (s.S + 1)) = .ok b1) (h2 : s.memRead (stackAddr (s.S + 2)) = .ok b2) :
    exec .rts s = .next ((s.setS (s.S + 2)).setPc (mkWord b2 b1 + 1)) := by
  obtain ⟨hacc1, rfl⟩ := memRead_ok_iff.1 h1
  obtain ⟨hacc2, rfl⟩ := memRead_ok_iff.1 h2
  exact exec_rts_next_iff.2 ⟨hacc1, hacc2, rfl⟩

theorem exec_rti_of_memRead {s : State} {b1 b2 b3 : Byte}
    (h1 : s.memRead (stackAddr (s.S + 1)) = .ok b1) (h2 : s.memRead (stackAddr (s.S + 2)) = .ok b2)
    (h3 : s.memRead (stackAddr (s.S + 3)) = .ok b3) :
    exec .rti s = .next (((s.setP b1).setS (s.S + 3)).setPc (mkWord b3 b2)) := by
  obtain ⟨hacc1, rfl⟩ := memRead_ok_iff.1 h1
  obtain ⟨hacc2, rfl⟩ := memRead_ok_iff.1 h2
  obtain ⟨hacc3, rfl⟩ := memRead_ok_iff.1 h3
  exact finish_next_iff.2 (leave_ok_iff.2 ⟨hacc1, hacc2, hacc3, rfl⟩)

/-- Settles O27. -/
theorem returnResults : Obligations.ReturnResults :=
  ⟨rfl, rfl, fun _ _ _ _ h1 h2 =>
    ⟨exec_rts_of_memRead h1 h2, fun h3 => exec_rti_of_memRead h1 h2 h3⟩⟩

/-! ## A stack page that is as it was left -/

/-- With the parameters of a state whose stack page is RAM, and the stack page of `t`, a read there gives the byte
`t` holds. -/
theorem memRead_stackAddr_of_sameStack {s t u : State} (hram : s.ramStack) (hcfg : u.cfg = s.cfg)
    (hsame : SameStack t u) (sp : Byte) : u.memRead (stackAddr sp) = .ok (t.peek (stackAddr sp)) := by
  have hkind : u.kindAt (stackAddr sp) = .ram := by
    rw [State.kindAt, hcfg]
    exact hram sp
  exact memRead_ok_iff.2 ⟨.inl hkind, (hsame sp).symm⟩

/-! ## RTS undoes JSR -/

section
variable {s : State} (hwf : Memory.wf s.mem = true) (hram : s.ramStack) (w : Word)
include hwf hram

theorem peek_pushedWord_high : (s.pushedWord w).peek (stackAddr s.S) = hiByte w := by
  have hne : s.S ≠ s.S - 1 := by bv_omega
  rw [State.pushedWord, peek_pushed_ne (pushed_wf hwf _) (by simpa [stackAddr_inj] using hne),
    peek_pushed_self hwf (hram _)]

theorem peek_pushedWord_low : (s.pushedWord w).peek (stackAddr (s.S - 1)) = loByte w :=
  peek_pushed_self (pushed_wf hwf _) (hram _) _

end

/-- Settles O55: the two bytes RTS reads are those of the pushed pc + 2. -/
theorem rtsUndoesJsr : Obligations.RtsUndoesJsr := by
  intro s t u a hwf hram hjsr hS hcfg hsame
  obtain ⟨-, -, rfl⟩ := exec_jsr_next_iff.1 hjsr
  have huS : u.S = s.S - 2 := hS.trans (s.pushedWord_S (s.pc + 2))
  have hread := memRead_stackAddr_of_sameStack hram hcfg hsame
  have hlow : u.memRead (stackAddr (u.S + 1)) = .ok (loByte (s.pc + 2)) := by
    rw [show u.S + 1 = s.S - 1 by bv_omega, hread, State.setPc_peek, peek_pushedWord_low hwf hram]
  have hhigh : u.memRead (stackAddr (u.S + 2)) = .ok (hiByte (s.pc + 2)) := by
    rw [show u.S + 2 = s.S by bv_omega, hread, State.setPc_peek, peek_pushedWord_high hwf hram]
  rw [exec_rts_of_memRead hlow hhigh, mkWord_hiByte_loByte, show u.S + 2 = s.S by bv_omega,
    show s.pc + 2 + 1 = s.pc + 3 by bv_omega]
  rfl

/-! ## RTI undoes an entry -/

/-- R16, R18: the pulled status byte of `s` gives back the six flags of `s`, whatever its bit 4 is. -/
theorem setP_statusByte_flag (s u : State) (b : Bool) (f : Flag) :
    (u.setP (s.statusByte b)).flag f = s.flag f := by
  obtain ⟨hN, hV, -, -, hD, hI, hZ, hC⟩ := statusByte_bits s b
  cases f
  case N => exact hN
  case V => exact hV
  case D => exact hD
  case I => exact hI
  case Z => exact hZ
  case C => exact hC

/-- What an entry leaves on the stack is the pushed frame. -/
theorem stack_of_enter {s t : State} {vector ret : Word} {b : Bool} (h : s.enter vector b ret = .ok t) :
    t.S = s.S - 3 ∧ t.cfg = s.cfg ∧ ∀ a, t.peek a = (s.pushedFrame b ret).peek a := by
  obtain ⟨-, -, -, -, -, rfl⟩ := enter_ok_iff.1 h
  exact ⟨s.pushedFrame_S b ret, s.pushedFrame_cfg b ret, fun _ => rfl⟩

/-- RTI with S and the stack page as an entry left them takes back the frame the entry pushed. -/
theorem exec_rti_of_enter {s t u : State} {vector ret : Word} {b : Bool} (hwf : Memory.wf s.mem = true)
    (hram : s.ramStack) (henter : s.enter vector b ret = .ok t) (hS : u.S = t.S) (hcfg : u.cfg = t.cfg)
    (hsame : SameStack t u) :
    exec .rti u = .next (((u.setP (s.statusByte b)).setS s.S).setPc ret) := by
  obtain ⟨htS, htcfg, hpeek⟩ := stack_of_enter henter
  have huS : u.S = s.S - 3 := hS.trans htS
  have hread := memRead_stackAddr_of_sameStack hram (hcfg.trans htcfg) hsame
  have hstatus : u.memRead (stackAddr (u.S + 1)) = .ok (s.statusByte b) := by
    rw [show u.S + 1 = s.S - 2 by bv_omega, hread, hpeek, peek_pushedFrame_status hwf b ret hram]
  have hlow : u.memRead (stackAddr (u.S + 2)) = .ok (loByte ret) := by
    rw [show u.S + 2 = s.S - 1 by bv_omega, hread, hpeek, peek_pushedFrame_low hwf b ret hram]
  have hhigh : u.memRead (stackAddr (u.S + 3)) = .ok (hiByte ret) := by
    rw [show u.S + 3 = s.S by bv_omega, hread, hpeek, peek_pushedFrame_high hwf b ret hram]
  rw [exec_rti_of_memRead hstatus hlow hhigh, mkWord_hiByte_loByte, show u.S + 3 = s.S by bv_omega]

/-- Settles O54. -/
theorem rtiUndoesEntry : Obligations.RtiUndoesEntry :=
  fun s _ u _ _ b hwf hram henter hS hcfg hsame =>
    ⟨_, exec_rti_of_enter hwf hram henter hS hcfg hsame, rfl, rfl, setP_statusByte_flag s u b,
      rfl, rfl, rfl, rfl⟩

end Sys2Proof.Machine
end

section
/-! SUPPORT. The flag instructions and NOP as instructions of one byte (R200 to R208). -/

namespace Sys2Proof.Machine

/-- Settles O29: each of the seven writes its one flag with the rule's constant, NOP none. -/
theorem flagInstructionResults : Obligations.FlagInstructionResults :=
  ⟨implied_of_impliedEffect rfl rfl fun _ => rfl,
    implied_of_impliedEffect rfl rfl fun _ => rfl,
    implied_of_impliedEffect rfl rfl fun _ => rfl,
    implied_of_impliedEffect rfl rfl fun _ => rfl,
    implied_of_impliedEffect rfl rfl fun _ => rfl,
    implied_of_impliedEffect rfl rfl fun _ => rfl,
    implied_of_impliedEffect rfl rfl fun _ => rfl,
    implied_of_impliedEffect rfl rfl fun _ => rfl⟩

end Sys2Proof.Machine
end

section
/-! SUPPORT. The events of a boundary (R214 to R226): when the NMI and the IRQ are taken, what the drawn mask of R222
and the drawn collision of R226 can be, and the step as one due event or one instruction (R217). -/

namespace Sys2Proof.Machine

/-! ## The mask (R222) -/

theorem irqMask_of_iPrev_none {s : State} (h : s.iPrev = none) : s.irqMask = (s.I, s) := by
  rw [State.irqMask, h]

/-- The mask is I, or the old I that `i_prev` holds. -/
theorem irqMask_cases (s : State) :
    ∃ (mask : Bool) (k : Nat), (mask = s.I ∨ s.iPrev = some mask)
      ∧ s.irqMask = (mask, { s with draws := k }) := by
  unfold State.irqMask
  split
  next => exact ⟨s.I, s.draws, .inl rfl, rfl⟩
  next old hprev =>
    refine ⟨_, s.draws + 1, ?_, rfl⟩
    split
    · exact .inl rfl
    · exact .inr hprev

/-! ## The collision with a BRK (R226) -/

theorem brkAtPc_iff {s : State} : s.brkAtPc = true ↔ s.memRead s.pc = .ok 0 := by
  unfold State.brkAtPc
  cases s.memRead s.pc with
  | ok opc => simp
  | error e => simp

/-- The outcome is the one `BrkIrqCollision` names, if it names one. -/
theorem collision_cases (s : State) :
    ∃ (c : Collision) (k : Nat),
      (s.cfg.brkIrqCollision = none ∨ s.cfg.brkIrqCollision = some c)
        ∧ s.collision = (c, { s with draws := k }) := by
  unfold State.collision
  cases s.cfg.brkIrqCollision with
  | none => exact ⟨_, s.draws + 1, .inl rfl, rfl⟩
  | some c => exact ⟨c, s.draws, .inr rfl, rfl⟩

/-- R226: what the step does for each outcome of a collision at `pc`. -/
def collisionAction (pc : Word) : Collision → Action
  | .irqFirst => .irq pc
  | .brkIgnored => .irq (pc + 2)
  | .brkFirst => .run

theorem takeOrDefer_of_not_brk {s : State} (h : s.memRead s.pc ≠ .ok 0) :
    s.takeOrDefer = (.irq s.pc, s) := by
  rw [State.takeOrDefer, if_neg (mt brkAtPc_iff.1 h)]

theorem takeOrDefer_of_brk {s : State} (h : s.memRead s.pc = .ok 0) :
    ∃ (c : Collision) (k : Nat),
      (s.cfg.brkIrqCollision = none ∨ s.cfg.brkIrqCollision = some c)
        ∧ s.takeOrDefer = (collisionAction s.pc c, { s with draws := k }) := by
  obtain ⟨c, k, hallowed, hc⟩ := collision_cases s
  refine ⟨c, k, hallowed, ?_⟩
  rw [State.takeOrDefer, if_pos (brkAtPc_iff.2 h), hc]
  cases c with
  | irqFirst => rfl
  | brkIgnored => rfl
  | brkFirst => rfl

/-- R181: the opcode of BRK is 0. -/
theorem fetch_of_brk {s : State} (h : s.memRead s.pc = .ok 0) : s.fetch = .ok .brk := by
  rw [State.fetch, h]
  rfl

/-! ## The boundary with no RESET -/

@[simp] theorem State.sample_nmiPending (s : State) :
    s.sample.nmiPending = (s.nmiPending || s.nextInput.nmiEdge) := rfl

theorem boundary_of_nmi {s : State} (hreset : s.nextInput.resetLine = false)
    (hnmi : (s.nmiPending || s.nextInput.nmiEdge) = true) : s.boundary = (.nmi, s.sample) :=
  choose_nmi hreset hnmi

section
variable {s : State} (hreset : s.nextInput.resetLine = false)
  (hnmi : (s.nmiPending || s.nextInput.nmiEdge) = false)
include hreset hnmi

theorem boundary_of_no_event (hline : s.nextInput.irqLine = false) : s.boundary = (.run, s.sample) :=
  choose_quiet hreset hline hnmi

theorem boundary_of_irqLine (hline : s.nextInput.irqLine = true) :
    s.boundary = if s.sample.irqMask.1 then (.run, s.sample.irqMask.2)
      else s.sample.irqMask.2.takeOrDefer :=
  choose_irq hreset hnmi hline

end

theorem nmi_not_due {s : State} (hpending : s.nmiPending = false) (hedge : s.nextInput.nmiEdge = false) :
    (s.nmiPending || s.nextInput.nmiEdge) = false := by
  rw [hpending, hedge, Bool.or_false]

/-! ## Taking an NMI or an IRQ -/

/-- An entry passes the NMI latch on and does not look at it. -/
theorem enter_setNmiPending {s t : State} {vector ret : Word} {b : Bool}
    (h : s.enter vector b ret = .ok t) (p : Bool) :
    ({ s with nmiPending := p } : State).enter vector b ret = .ok { t with nmiPending := p } := by
  obtain ⟨hhigh, hlow, hstatus, hvector, hvector', rfl⟩ := enter_ok_iff.1 h
  exact enter_ok_iff.2 ⟨hhigh, hlow, hstatus, hvector, hvector', rfl⟩

/-- R218, R219: taking the NMI is the entry through `$FFFA` with the latch cleared after it. -/
theorem takeNmi_ok_iff {s t : State} :
    s.takeNmi = .ok t ↔
      ∃ u, s.enter 0xFFFA false s.pc = .ok u ∧ t = { u with nmiPending := false } := by
  constructor
  · intro taken
    have hlatch : t.nmiPending = false := (enter_hidden taken).1
    refine ⟨{ t with nmiPending := s.nmiPending }, enter_setNmiPending taken s.nmiPending, ?_⟩
    rw [← hlatch]
  · rintro ⟨u, henter, rfl⟩
    exact enter_setNmiPending henter false

theorem step_of_nmi {s b : State} (h : s.boundary = (.nmi, b)) : step s = finish b.takeNmi := by
  rw [step, h]

theorem step_of_irq {s b : State} {ret : Word} (h : s.boundary = (.irq ret, b)) :
    step s = finish (b.enter 0xFFFE false ret) := by
  rw [step, h]
  rfl

/-- Settles O49. -/
theorem nmiTaken : Obligations.NmiTaken := by
  intro s t hreset hnmi henter
  have taken : s.sample.takeNmi = .ok { t with nmiPending := false } := takeNmi_ok_iff.2 ⟨t, henter, rfl⟩
  rw [step_of_nmi (boundary_of_nmi hreset hnmi), taken, finish_ok]

/-- Settles O50: with `i_prev` none the mask is I. -/
theorem irqRecognition : Obligations.IrqRecognition := by
  intro s hreset hpending hedge hprev
  have hnmi := nmi_not_due hpending hedge
  have hmask : s.sample.irqMask = (s.I, s.sample) := irqMask_of_iPrev_none hprev
  constructor
  · intro hline hI hbrk
    have hirq : s.boundary = (.irq s.pc, s.sample) := by
      rw [boundary_of_irqLine hreset hnmi hline, hmask, hI]
      exact takeOrDefer_of_not_brk hbrk
    exact step_of_irq hirq
  · intro hquiet
    refine step_of_run ?_
    cases hline : s.nextInput.irqLine with
    | false => exact boundary_of_no_event hreset hnmi hline
    | true =>
      have hI : s.I = true := hquiet.resolve_left (by simp [hline])
      rw [boundary_of_irqLine hreset hnmi hline, hmask, hI]
      rfl

/-- Settles O51: the drawn mask decides, and without a BRK at pc an IRQ it lets through is taken. -/
theorem maskAfterFlagChange : Obligations.MaskAfterFlagChange := by
  intro s old hreset hpending hedge hline hprev hbrk
  obtain ⟨mask, k, hvalue, hmask⟩ := irqMask_cases s.sample
  have hboundary := boundary_of_irqLine hreset (nmi_not_due hpending hedge) hline
  rw [hmask] at hboundary
  have hold : s.iPrev = some mask → mask = old := fun h => Option.some.inj (h.symm.trans hprev)
  refine ⟨mask, hvalue.imp_right hold, k, ?_⟩
  cases mask with
  | true => exact step_of_run hboundary
  | false => exact step_of_irq (hboundary.trans (takeOrDefer_of_not_brk hbrk))

/-- Settles O52: each outcome of the collision is one action of the step. -/
theorem brkIrqCollision : Obligations.BrkIrqCollision := by
  intro s hreset hpending hedge hline hprev hI hbrk
  have hmask : s.sample.irqMask = (s.I, s.sample) := irqMask_of_iPrev_none hprev
  obtain ⟨c, k, hallowed, hc⟩ := takeOrDefer_of_brk (s := s.sample) hbrk
  have hboundary : s.boundary = (collisionAction s.pc c, { s.sample with draws := k }) := by
    rw [boundary_of_irqLine hreset (nmi_not_due hpending hedge) hline, hmask, hI]
    exact hc
  refine ⟨c, k, hallowed, ?_⟩
  cases c with
  | irqFirst => exact step_of_irq hboundary
  | brkIgnored => exact step_of_irq hboundary
  | brkFirst => exact (step_of_run hboundary).trans (runInstruction_of_fetch (fetch_of_brk hbrk))

/-! ## A step is one due event or one instruction -/

/-- `DueAction s a b`: at the boundary of `s` action `a` is chosen and the state becomes `b`, with the conditions
under which R214, R215 and R220 make an event due. -/
inductive DueAction (s : State) : Action → State → Prop where
  | reset (due : s.nextInput.resetLine = true) : DueAction s .reset s.sample
  | nmi (noReset : s.nextInput.resetLine = false)
      (due : (s.nmiPending || s.nextInput.nmiEdge) = true) : DueAction s .nmi s.sample
  | irq {k : Nat} {ret : Word} (noReset : s.nextInput.resetLine = false)
      (noNmi : (s.nmiPending || s.nextInput.nmiEdge) = false) (line : s.nextInput.irqLine = true)
      (unmasked : s.I = false ∨ s.iPrev = some false)
      (returns : ret = s.pc ∨ ret = s.pc + 2 ∧ s.memRead s.pc = .ok 0) :
      DueAction s (.irq ret) { s.sample with draws := k }
  | run {k : Nat} (noReset : s.nextInput.resetLine = false) :
      DueAction s .run { s.sample with draws := k }

/-- An IRQ the mask lets through is taken, unless a BRK at pc goes first. -/
theorem dueAction_takeOrDefer {s b : State} {a : Action} {k : Nat} (hreset : s.nextInput.resetLine = false)
    (hnmi : (s.nmiPending || s.nextInput.nmiEdge) = false) (hline : s.nextInput.irqLine = true)
    (unmasked : s.I = false ∨ s.iPrev = some false)
    (h : ({ s.sample with draws := k } : State).takeOrDefer = (a, b)) : DueAction s a b := by
  by_cases hbrk : s.memRead s.pc = .ok 0
  · obtain ⟨c, d, -, hc⟩ := takeOrDefer_of_brk (s := { s.sample with draws := k }) hbrk
    cases h.symm.trans hc
    cases c with
    | irqFirst => exact .irq hreset hnmi hline unmasked (.inl rfl)
    | brkIgnored => exact .irq hreset hnmi hline unmasked (.inr ⟨rfl, hbrk⟩)
    | brkFirst => exact .run hreset
  · cases h.symm.trans (takeOrDefer_of_not_brk (s := { s.sample with draws := k }) hbrk)
    exact .irq hreset hnmi hline unmasked (.inl rfl)

/-- R220: every boundary chooses an action that is due there. -/
theorem dueAction_boundary (s : State) : DueAction s s.boundary.1 s.boundary.2 := by
  cases hreset : s.nextInput.resetLine with
  | true =>
    rw [State.boundary, choose_reset hreset]
    exact .reset hreset
  | false =>
    cases hnmi : s.nmiPending || s.nextInput.nmiEdge with
    | true =>
      rw [boundary_of_nmi hreset hnmi]
      exact .nmi hreset hnmi
    | false =>
      cases hline : s.nextInput.irqLine with
      | false =>
        rw [boundary_of_no_event hreset hnmi hline]
        exact .run (k := s.draws) hreset
      | true =>
        obtain ⟨mask, k, hvalue, hmask⟩ := irqMask_cases s.sample
        rw [boundary_of_irqLine hreset hnmi hline, hmask]
        cases mask with
        | true => exact .run hreset
        | false => exact dueAction_takeOrDefer hreset hnmi hline (hvalue.imp_left Eq.symm) rfl

theorem retire_flag (s t : State) (i : Instr) (f : Flag) : (s.retire i t).flag f = t.flag f := rfl

/-- Settles O59: the action of a step is due at its boundary; an event leaves what its entry leaves, and `retire`
changes nothing but `i_prev` after an instruction. -/
theorem stepIsEventOrInstruction : Obligations.StepIsEventOrInstruction := by
  intro s t h
  have chosen := dueAction_boundary s
  rcases step_cases h with
    ⟨haction, taken⟩ | ⟨haction, taken⟩ | ⟨ret, haction, taken⟩ | ⟨haction, i, u, fetched, executed, rfl⟩
  all_goals
    rw [haction] at chosen
    generalize s.boundary.2 = b at *
  · cases chosen with | reset due =>
    obtain ⟨-, -, rfl⟩ := takeReset_ok_iff.1 taken
    exact .inl ⟨due, rfl, rfl⟩
  · cases chosen with | nmi noReset due =>
    obtain ⟨u, entered, ht⟩ := takeNmi_ok_iff.1 taken
    exact .inr (.inl ⟨s.draws, 0xFFFA, s.pc, u, noReset, entered, ht, .inl ⟨rfl, rfl, due⟩⟩)
  · cases chosen with | irq noReset noNmi line unmasked returns =>
    have served : t.nmiPending = false := (enter_hidden taken).1.trans noNmi
    have ht : t = { t with nmiPending := false } := by rw [← served]
    exact .inr (.inl ⟨_, 0xFFFE, ret, t, noReset, taken, ht, .inr ⟨rfl, line, unmasked, returns⟩⟩)
  · cases chosen with | run noReset =>
    exact .inr (.inr ⟨_, i, u, noReset, fetched, executed, rfl, rfl, rfl, rfl, rfl, rfl, retire_flag _ u i⟩)

end Sys2Proof.Machine
end
